-- ==== Sys2Proof/Word.lean ====
section
/-! DEFINITION. The plain types every file uses: bytes, the sixteen faders, thirty-two meters, sixteen pairs, four
groups, four pages, and the clock's unit. No rule of the spec is decided here but the unit of time (log entry 1). -/

namespace Sys2Proof

/-- One byte on the Surface Link (R155). -/
abbrev Byte := BitVec 8

/-- Faders F0-F15. -/
abbrev FaderIx := Fin 16

/-- Meters M0-M31. -/
abbrev MeterIx := Fin 32

/-- Meter pairs P0-P15; pair Pk joins M2k and M2k+1. -/
abbrev PairIx := Fin 16

/-- Groups G0-G3. -/
abbrev GroupIx := Fin 4

/-- Scene pages 0-3. -/
abbrev PageIx := Fin 4

/-- A time, counted in sixths of a millisecond (1/6000 s), the coarsest unit in which the 0.5 ms sample period, every
millisecond quantity and the frame periods 1/24, 1/25, 1/30, 1/50 and 1/60 s are all whole numbers (log entry 1). -/
abbrev Time := Nat

/-- `n` milliseconds. -/
def ms (n : Nat) : Time := 6 * n

/-- `n` units of 0.5 ms. -/
def halfMs (n : Nat) : Time := 3 * n

/-- The distance between two positions, in steps. -/
def dist (a b : Nat) : Nat := (a - b) + (b - a)

/-- `a` divided by `b`, rounded up. -/
def ceilDiv (a b : Nat) : Nat := (a + b - 1) / b

/-- All faders, F0 first. -/
def allFaders : List FaderIx := List.finRange 16

/-- All meters, M0 first. -/
def allMeters : List MeterIx := List.finRange 32

/-- All groups, G0 first. -/
def allGroups : List GroupIx := List.finRange 4

end Sys2Proof
end

