-- ==== Sys2Proof/Syntax.lean ====
section
/-! DEFINITION. The commands of the FMC16: one constructor per row of spec/opcode_table.json, in the table's order.
A request row carries the fields of Table 10-9 as the numbers its payload bytes spell (so that every out of range value
can be sent), and whether its frame was addressed to the part or broadcast (R157). An event row carries what the outside
world supplies at that event: a raw conversion, an input level, the bits of a Level Stream frame, the straps. -/

namespace Sys2Proof

/-- How a request frame is addressed (R157): to the part's own address, or to address 31. -/
inductive Dest where
  | addressed
  | broadcast
  deriving DecidableEq, Repr

/-- The level of a four-level address strap (R169). -/
inductive Strap where
  | ground
  | midRail
  | openPin
  | supply
  deriving DecidableEq, Repr

/-- One entry of a PAGE-LOAD list (R102): fader, target, and a glide that may be absent. -/
structure EntryOperand where
  fader : Nat
  target : Nat
  glide : Option Nat
  deriving DecidableEq, Repr

/-- One point of a POINTS list (R128): time, position and the shape's code. -/
structure PointOperand where
  time : Nat
  position : Nat
  shape : Nat
  deriving DecidableEq, Repr

/-- One entry of a LEVELS list (R142): meter, level and the clip mark's code. -/
structure LevelOperand where
  meter : Nat
  level : Nat
  clip : Nat
  deriving DecidableEq, Repr

/-- The seven settings of FADER-SET, each present or absent (R34). -/
structure FaderSetOperand where
  release : Option Nat
  touchEnable : Option Nat
  arrivalWindow : Option Nat
  holdWindow : Option Nat
  speedLimit : Option Nat
  reportStep : Option Nat
  detent : Option Nat
  deriving DecidableEq, Repr

/-- The eight settings of METER-SET, each present or absent (R140). In `holdTime` and `overloadHold` the wire value
65535 (all ones with the presence bit set) stands for INFINITE and LATCHED (Table 10-9). -/
structure MeterSetOperand where
  mode : Option Nat
  source : Option Nat
  scaleTable : Option Nat
  fallInterval : Option Nat
  holdTime : Option Nat
  overloadHold : Option Nat
  threshold : Option Nat
  pairLink : Option Nat
  deriving DecidableEq, Repr

/-- The commands: every row of spec/opcode_table.json, in its order. -/
inductive Instr where
  /-- MOVE (R30). -/
  | move (d : Dest) (fader target glide : Nat)
  /-- NULL (R31). -/
  | null (d : Dest) (fader glide : Nat)
  /-- STOP (R32). -/
  | stop (d : Dest) (fader : Nat)
  /-- TEACH (R33). -/
  | teach (d : Dest) (fader : Nat)
  /-- FADER-SET (R34): the fader set with bit n standing for Fn. -/
  | faderSet (d : Dest) (faders : BitVec 16) (settings : FaderSetOperand)
  /-- FADER-READ (R35). -/
  | faderRead (d : Dest) (fader : Nat)
  /-- WATCH-SET (R78). -/
  | watchSet (d : Dest) (faders : BitVec 16) (watch : Nat)
  /-- FAULT-CLEAR (R79). -/
  | faultClear (d : Dest) (fader conditions : Nat)
  /-- CALIBRATE (R81). -/
  | calibrate (d : Dest) (faders : BitVec 16)
  /-- CAL-ACCEPT (R85). -/
  | calAccept (d : Dest) (fader : Nat)
  /-- CAL-REJECT (R86). -/
  | calReject (d : Dest) (fader : Nat)
  /-- BUDGET-SET (R62). -/
  | budgetSet (d : Dest) (budget : Nat)
  /-- HEAT-SET (R69). -/
  | heatSet (d : Dest) (trip resume : Nat)
  /-- DRIVE-READ (R70). -/
  | driveRead (d : Dest)
  /-- GROUP-FORM (R91). -/
  | groupForm (d : Dest) (group master : Nat) (members : BitVec 16)
  /-- GROUP-DISSOLVE (R92). -/
  | groupDissolve (d : Dest) (group : Nat)
  /-- GROUP-READ (R93). -/
  | groupRead (d : Dest) (group : Nat)
  /-- PAGE-LOAD (R102). -/
  | pageLoad (d : Dest) (page glide : Nat) (entries : List EntryOperand)
  /-- PAGE-READ (R103). -/
  | pageRead (d : Dest) (page : Nat)
  /-- RECALL (R105): the start condition's code, and a count read with AT only. -/
  | recall (d : Dest) (tag page condition count : Nat)
  /-- FIRE (R107). -/
  | fire (d : Dest)
  /-- WITHDRAW (R114). -/
  | withdraw (d : Dest)
  /-- HALT (R115). -/
  | halt (d : Dest)
  /-- RECALL-SET (R116). -/
  | recallSet (d : Dest) (lateness expiry : Nat)
  /-- RECALL-READ (R117). -/
  | recallRead (d : Dest)
  /-- TIME-SET (R126). -/
  | timeSet (d : Dest) (count : Nat)
  /-- TRANSPORT (R124). -/
  | transport (d : Dest) (value : Nat)
  /-- TIME-SOURCE (R125). -/
  | timeSource (d : Dest) (source rate : Nat)
  /-- LANE-ENABLE (R134): the chase glide may be absent. -/
  | laneEnable (d : Dest) (fader : Nat) (chase : Option Nat)
  /-- LANE-DISABLE (R135). -/
  | laneDisable (d : Dest) (fader : Nat)
  /-- POINTS (R128). -/
  | points (d : Dest) (fader : Nat) (list : List PointOperand)
  /-- LANE-READ (R137). -/
  | laneRead (d : Dest) (fader : Nat)
  /-- METER-SET (R140): the meter set with bit n standing for Mn. -/
  | meterSet (d : Dest) (meters : BitVec 32) (settings : MeterSetOperand)
  /-- SCALE-LOAD (R148). -/
  | scaleLoad (d : Dest) (table : Nat) (thresholds : Vector Nat 40)
  /-- LEVELS (R142). -/
  | levels (d : Dest) (list : List LevelOperand)
  /-- HOLD-CLEAR (R151). -/
  | holdClear (d : Dest) (meters : BitVec 32)
  /-- BRIGHTNESS (R150). -/
  | brightness (d : Dest) (value : Nat)
  /-- STREAM-SET (R152). -/
  | streamSet (d : Dest) (base : Nat)
  /-- LINK-SET (R162). -/
  | linkSet (d : Dest) (timeout rate : Nat)
  /-- COLLECT (R165). -/
  | collect (d : Dest) (maximum : Nat)
  /-- IDENTIFY (R171). -/
  | identify (d : Dest)
  /-- STORE (R168). -/
  | store (d : Dest)
  /-- RESTART (R170). -/
  | restart (d : Dest)
  /-- UNKNOWN_KIND (R157): a valid request frame judged by its kind code and its payload's length. -/
  | unknownKind (d : Dest) (kind : Byte) (payload : List Byte)
  /-- BAD_CHECK_FRAME (R156). -/
  | badCheckFrame
  /-- FOREIGN_FRAME (R157): a valid frame judged by its address byte. -/
  | foreignFrame (address kind : Byte) (payload : List Byte)
  /-- DUPLICATE_ADDRESS_REPLY (R161). -/
  | duplicateAddressReply
  /-- FRAME_OPENING_IDLE (R155). -/
  | frameOpeningIdle
  /-- FRAME_GAP_ABANDON (R155). -/
  | frameGapAbandon
  /-- REPLY_START (R158). -/
  | replyStart
  /-- REPLY_END (R158). -/
  | replyEnd
  /-- LINK_LOST (R159): expiry of the supervision timer. -/
  | linkLost
  /-- CHIP_RESET (R169): power-on, or RESET held low. -/
  | chipReset
  /-- RESET_RELEASE (R169): RESET rises; the straps and the first conversion of each fader. -/
  | resetRelease (addr1 addr0 : Strap) (raws : Vector (BitVec 12) 16)
  /-- PART_READY (R169). -/
  | partReady
  /-- SERVO_SAMPLE (R1): the new conversion, and whether the driver fault input is active (low). -/
  | servoSample (fader : FaderIx) (raw : BitVec 12) (faultActive : Bool)
  /-- RAMP_END (R44): the servo sample at which the ramp runs out. -/
  | rampEnd (fader : FaderIx) (raw : BitVec 12) (faultActive : Bool)
  /-- ARRIVAL (R51): the servo sample at which the settle count reaches 16. -/
  | arrival (fader : FaderIx) (raw : BitVec 12) (faultActive : Bool)
  /-- TOUCH_SAMPLE (R7): whether the touch input is present (high). -/
  | touchSample (fader : FaderIx) (present : Bool)
  /-- TOUCH_ON (R22): the touch sample that completes a touch-on. -/
  | touchOn (fader : FaderIx)
  /-- TOUCH_OFF (R24): the touch sample that completes a touch-off. -/
  | touchOff (fader : FaderIx)
  /-- STALL_CONDITION (R72): the servo sample that makes STALL current. -/
  | stallCondition (fader : FaderIx) (raw : BitVec 12) (faultActive : Bool)
  /-- TRACK_CONDITION (R73): the servo sample that makes TRACK current. -/
  | trackCondition (fader : FaderIx) (raw : BitVec 12) (faultActive : Bool)
  /-- OVERCURRENT_CONDITION (R74): the servo sample that makes OVERCURRENT current. -/
  | overcurrentCondition (fader : FaderIx) (raw : BitVec 12) (faultActive : Bool)
  /-- HEAT_WINDOW_END (R64). -/
  | heatWindowEnd (fader : FaderIx)
  /-- CAL_DOWN_STOP (R82): the servo sample that ends CAL-DOWN by its stop test. -/
  | calDownStop (fader : FaderIx) (raw : BitVec 12) (faultActive : Bool)
  /-- CAL_UP_STOP (R83): the servo sample that ends CAL-UP by its stop test. -/
  | calUpStop (fader : FaderIx) (raw : BitVec 12) (faultActive : Bool)
  /-- CAL_PHASE_TIMEOUT (R84): the servo sample at which a phase has run more than 3000 ms. -/
  | calPhaseTimeout (fader : FaderIx) (raw : BitVec 12) (faultActive : Bool)
  /-- RECALL_EXPIRY (R110): an event at the open entry's fader. -/
  | recallExpiry (fader : FaderIx)
  /-- FRAME_PULSE (R121): a rising edge on FRAME. -/
  | framePulse
  /-- INTERNAL_FRAME_EVENT (R121). -/
  | internalFrameEvent
  /-- SYNC_LOSS (R122). -/
  | syncLoss
  /-- DISPLAY_FRAME (R143). -/
  | displayFrame
  /-- HOLD_EXPIRY (R145): the display frame at which the meter's hold timer expires. -/
  | holdExpiry (meter : MeterIx)
  /-- LAMP_EXPIRY (R147): the display frame at which the meter's lamp timer runs out. -/
  | lampExpiry (meter : MeterIx)
  /-- SCAN_FRAME_START (R150). -/
  | scanFrameStart
  /-- LEVEL_STREAM_FRAME (R152): the bits that arrived between two frame syncs, first bit first. -/
  | levelStreamFrame (bits : List Bool)
  /-- STREAM_LOSS (R153). -/
  | streamLoss
  /-- STORE_END (R168): `none` when the read-back equals the snapshot; otherwise the check value the store then holds. -/
  | storeEnd (differs : Option (BitVec 16))
  /-- BYTE_ARRIVAL (R155): the byte, and whether its stop bit was low. -/
  | byteArrival (byte : Byte) (stopLow : Bool)
  deriving DecidableEq, Repr

end Sys2Proof
end

