-- ==== Sys2Proof/Decode.lean ====
section
/-! DEFINITION. The command a word spells. No row of spec/opcode_table.json gives bits (the commands of this block are
frames, pin events and expiries), so no word spells one; the frames themselves are read in Machine/Wire.lean. -/

namespace Sys2Proof

/-- The command that a word spells by the table's bits: none (log entry 17). -/
def decodeTableWord (_nbits _w : Nat) : Option Instr := none

end Sys2Proof
end

