-- ==== Sys2Proof/Machine/State.lean ====
section
/-! DEFINITION. Every piece of state the spec gives the FMC16, block by block (Table I-1), as plain data; the faults and
refusals a command can end in; and the state at chip reset. A docstring names the rule or table an item comes from. -/

namespace Sys2Proof.Machine

/-! ## Working settings (Table 12-1) -/

/-- Release behaviour (Table 2-1). -/
inductive Release where
  | return
  | stay
  deriving DecidableEq, Repr

/-- A set of the fault conditions STALL, TRACK and OVERCURRENT (10-8: bits 0, 1 and 2). -/
structure CondSet where
  stall : Bool
  track : Bool
  overcurrent : Bool
  deriving DecidableEq, Repr

/-- One fault condition (Table 10-7). -/
inductive Cond where
  | stall
  | track
  | overcurrent
  deriving DecidableEq, Repr

/-- The per-fader working settings (R15, Table 2-1, settings rows). -/
structure FaderSettings where
  release : Release
  touchEnable : Bool
  arrivalWindow : Nat
  holdWindow : Nat
  speedLimit : Nat
  reportStep : Nat
  detent : Nat
  calLow : Nat
  calHigh : Nat
  watch : CondSet
  deriving DecidableEq, Repr

/-- Link rate: 0.5, 1 or 2 Mbit/s (Table 10-2). -/
inductive LinkRate where
  | half
  | one
  | two
  deriving DecidableEq, Repr

/-- Timeline source (Table 8-1). -/
inductive Source where
  | external
  | internal
  | link
  deriving DecidableEq, Repr

/-- Nominal frame rate (Table 8-1). -/
inductive FrameRate where
  | fps24
  | fps25
  | fps30
  | fps50
  | fps60
  deriving DecidableEq, Repr

/-- Meter mode (Table 9-1). -/
inductive MeterMode where
  | peak
  | programme
  | average
  deriving DecidableEq, Repr

/-- Meter source (Table 9-1). -/
inductive MeterSource where
  | stream
  | link
  deriving DecidableEq, Repr

/-- Scale table name (Table 9-1). -/
inductive TableName where
  | a
  | b
  deriving DecidableEq, Repr

/-- The seven settings of a meter (R139, Table 9-1). `holdTime` none is INFINITE; `overloadHold` none is LATCHED. -/
structure MeterSettings where
  mode : MeterMode
  source : MeterSource
  table : TableName
  fallInterval : Nat
  holdTime : Option Nat
  overloadHold : Option Nat
  threshold : Nat
  deriving DecidableEq, Repr

/-- The settings kept in the stored profile (Table 12-1). -/
structure Settings where
  linkRate : LinkRate
  linkTimeout : Nat
  faders : Vector FaderSettings 16
  budget : Nat
  heatTrip : Nat
  heatResume : Nat
  lateness : Nat
  recallExpiry : Nat
  source : Source
  frameRate : FrameRate
  baseSlot : Nat
  meters : Vector MeterSettings 32
  /-- The pair link of each pair: true is LINKED (R139). -/
  pairs : Vector Bool 16
  brightness : Nat
  scaleA : Vector Nat 40
  scaleB : Vector Nat 40
  deriving DecidableEq, Repr

/-- Table 12-1, per fader. -/
def FaderSettings.default : FaderSettings where
  release := .stay
  touchEnable := true
  arrivalWindow := 2
  holdWindow := 6
  speedLimit := 6
  reportStep := 1
  detent := 767
  calLow := 200
  calHigh := 3895
  watch := ⟨true, true, true⟩

/-- Table 9-2. -/
def MeterSettings.default : MeterSettings where
  mode := .peak
  source := .stream
  table := .a
  fallInterval := 4
  holdTime := some 1500
  overloadHold := some 1000
  threshold := 2

/-- Table 9-4, table A: segment `i + 1`. -/
def defaultScaleA : Vector Nat 40 :=
  Vector.ofFn fun i => if i.val + 1 ≤ 20 then 244 - 8 * (i.val + 1) else 4 * (40 - (i.val + 1))

/-- Table 9-4, table B: segment `i + 1`. -/
def defaultScaleB : Vector Nat 40 :=
  Vector.ofFn fun i => 6 * (40 - (i.val + 1))

/-- The defaults of Table 12-1. -/
def Settings.default : Settings where
  linkRate := .one
  linkTimeout := 500
  faders := Vector.replicate 16 FaderSettings.default
  budget := 6
  heatTrip := 3000
  heatResume := 1500
  lateness := 60
  recallExpiry := 3000
  source := .external
  frameRate := .fps25
  baseSlot := 0
  meters := Vector.replicate 32 MeterSettings.default
  pairs := Vector.replicate 16 false
  brightness := 10
  scaleA := defaultScaleA
  scaleB := defaultScaleB

/-! ## Track Sense Unit and Touch Sense Unit (Table 1-1) -/

/-- Sample class (R2). -/
inductive SampleClass where
  | inWindow
  | outOfWindow
  deriving DecidableEq, Repr

/-- The Track Sense Unit's items of one fader. -/
structure Track where
  raw : Nat
  cls : SampleClass
  /-- The position in force; the fader record's position is this item (R15: copied at each position change). -/
  pos : Nat
  lastValid : Nat
  /-- The next sample is a first sample (R6, after RESTART). -/
  first : Bool
  /-- The earliest time of the next sample: 0.5 ms after the last one (R1). -/
  nextSample : Time
  deriving DecidableEq, Repr

/-- A capture (R10): ON or OFF, the position and the Timeline count. -/
structure Capture where
  on : Bool
  pos : Nat
  count : Nat
  deriving DecidableEq, Repr

/-- The Touch Sense Unit's items of one fader. -/
structure Touch where
  on : Bool
  present : Nat
  absent : Nat
  captures : List Capture
  lost : Bool
  /-- The earliest time of the next touch sample (R7). -/
  nextSample : Time
  deriving DecidableEq, Repr

/-! ## Fader Control (Table 2-1) -/

/-- The phase of CALIBRATING (Table 5-2). -/
inductive CalPhase where
  | calWait
  | calDown
  | calUp
  | calReview
  deriving DecidableEq, Repr

/-- The eight states of a fader record, CALIBRATING with its phase (R16, Table 2-2). -/
inductive FaderState where
  | parked
  | waiting
  | travel
  | settle
  | touched
  | rest
  | faulted
  | calibrating (phase : CalPhase)
  deriving DecidableEq, Repr

/-- Claim kind with its reference and suspended mark (R17): the reference stands with RECALL and FOLLOW only, the mark
with LANE only. -/
inductive Claim where
  | none
  | direct
  | recall (tag index : Nat)
  | lane (suspended : Bool)
  | follow (group : GroupIx)
  deriving DecidableEq, Repr

/-- The pending calibration result (Table 2-1, R83). -/
structure CalResult where
  low : Nat
  high : Nat
  span : Int
  deriving DecidableEq, Repr

/-- The fader record's own items (R15). Position, settings, calibration, fault sets, captures and group role have
their one home in the blocks Table 2-1 names. -/
structure FaderRecord where
  state : FaderState
  claim : Claim
  target : Nat
  hold : Nat
  lastReported : Nat
  planned : Option Time
  deadline : Option Time
  expiry : Option Time
  pendingCal : Option CalResult
  deriving DecidableEq, Repr

/-! ## Motion Generator (Table 3-1) -/

/-- The ramp items; the duration is in 0.5 ms units. -/
structure RampItems where
  start : Nat
  stop : Nat
  startTime : Time
  duration : Nat
  deriving DecidableEq, Repr

/-- Ramp state with the ramp items, which are absent while it is NONE. -/
inductive Ramp where
  | none
  | running (r : RampItems)
  | ended (r : RampItems)
  deriving DecidableEq, Repr

/-- The Motion Generator's items of one fader; the drive level is in whole percent, -100 to 100. -/
structure Motion where
  setpoint : Nat
  ramp : Ramp
  drive : Int
  settleCount : Nat
  /-- The time of the grant that put the fader into TRAVEL, until its next sample: what tells a grant and another event
  that come together (R61). -/
  granted : Option Time
  deriving DecidableEq, Repr

/-! ## Drive Pool, per fader (Table 4-1) -/

/-- Heat and the items of the present heat window (R63, R64). `samples` counts the samples of the window, of twenty;
`lastDrive` is the drive level of the fader's most recent servo sample (R48), which DRIVE-READ reports (R70). -/
structure Heat where
  heat : Nat
  sum : Nat
  held : Bool
  samples : Nat
  lastDrive : Int
  deriving DecidableEq, Repr

/-! ## Fault Monitor (Table 5-1); the watch set is a working setting -/

/-- The Fault Monitor's items of one fader. -/
structure FaultItems where
  current : CondSet
  latched : CondSet
  /-- Run start time and reference position. -/
  stallRun : Option (Time × Nat)
  trackRun : Option Time
  overcurrentRun : Option Time
  lastLatch : Option Cond
  deriving DecidableEq, Repr

/-! ## Calibration Sequencer (Table 5-2) -/

/-- The timed items of CAL-DOWN and CAL-UP. -/
structure CalTiming where
  phaseStart : Time
  stopReference : Nat
  stopStart : Time
  deriving DecidableEq, Repr

/-- The items of a fader under calibration; the phase stands in the fader's state. Table 5-2 gives phase start time, stop
reference and stop window start no absent value; that they are absent in CAL-WAIT and CAL-REVIEW, where no phase of R82 and
R83 runs, is the model's choice (DESIGN CHOICE, log entry 50). -/
structure CalRun where
  timing : Option CalTiming
  low : Option Nat
  high : Option Nat
  deriving DecidableEq, Repr

/-! ## Lane Engine (Table 8-3) -/

/-- Point shape. -/
inductive Shape where
  | step
  | ramp
  deriving DecidableEq, Repr

/-- A timed point. -/
structure Point where
  time : Nat
  pos : Nat
  shape : Shape
  deriving DecidableEq, Repr

/-- The active segment: from-point and to-point, each a time and a position. -/
structure Segment where
  fromTime : Nat
  fromPos : Nat
  toTime : Nat
  toPos : Nat
  deriving DecidableEq, Repr

/-- The lane record of one fader. -/
structure Lane where
  enabled : Bool
  chase : Nat
  queue : List Point
  current : Option Shape
  value : Option Nat
  segment : Option Segment
  starved : Bool
  lastTime : Option Nat
  deriving DecidableEq, Repr

/-- Everything kept once per fader. -/
structure Fader where
  track : Track
  touch : Touch
  record : FaderRecord
  motion : Motion
  heat : Heat
  fault : FaultItems
  cal : Option CalRun
  lane : Lane
  deriving DecidableEq, Repr

/-! ## Group Follower (Table 6-1) -/

/-- A member's items. -/
structure Member where
  fader : FaderIx
  offset : Int
  clamped : Bool
  deferred : Bool
  deriving DecidableEq, Repr

/-- A group in use; a group not in use is `none`. -/
structure Group where
  master : FaderIx
  members : List Member
  leading : Bool
  deriving DecidableEq, Repr

/-! ## Recall Engine (Tables 7-1 and 7-2) -/

/-- One entry of a scene page. -/
structure Entry where
  fader : FaderIx
  target : Nat
  glide : Option Nat
  deriving DecidableEq, Repr

/-- A scene page (R101). -/
structure Page where
  glide : Nat
  entries : List Entry
  deriving DecidableEq, Repr

/-- Outcomes of moves and entries (Table 10-7). -/
inductive Outcome where
  | arrived
  | late
  | overridden
  | superseded
  | halted
  | faulted
  | skipped
  | expired
  | linklost
  deriving DecidableEq, Repr

/-- Start condition (R105). -/
inductive StartCondition where
  | now
  | fire
  | at (count : Nat)
  deriving DecidableEq, Repr

/-- What a RUNNING recall holds beside its request: start time, its own lateness allowance and expiry, and one outcome
per entry, absent until resolved (Table 7-2). -/
structure RecallRun where
  start : Time
  lateness : Nat
  expiry : Nat
  outcomes : List (Option Outcome)
  deriving DecidableEq, Repr

/-- A recall record: PENDING while `run` is absent, RUNNING otherwise. -/
structure Recall where
  tag : Nat
  page : PageIx
  condition : StartCondition
  run : Option RecallRun
  deriving DecidableEq, Repr

/-! ## Timeline Counter (Table 8-1); source and frame rate are working settings -/

/-- The Timeline items. -/
structure Timeline where
  count : Nat
  /-- Transport RUN. -/
  run : Bool
  /-- Sync state LOCKED. -/
  locked : Bool
  /-- When the sync timer last restarted; the timer is the time since then, held at three frame periods (R122). -/
  syncStart : Time
  /-- The generator phase; it is set when the transport runs with source INTERNAL (R121). That it is 0 before, after chip
  reset and after RESTART, which clears it (R120), is the model's choice (DESIGN CHOICE, log entry 49). -/
  phase : Time
  /-- Whole frame periods, of the rate in force, that the generator has behind it since its phase (R121). -/
  frames : Nat
  deriving DecidableEq, Repr

/-! ## Meter Engine, Level Stream Receiver, Display Scanner (Table 9-1) -/

/-- Hold state. -/
inductive HoldState where
  | holding
  | following
  deriving DecidableEq, Repr

/-- What the image shows of one meter (R149). -/
structure Shown where
  segments : Nat
  dot : Nat
  lamp : Bool
  deriving DecidableEq, Repr

/-- A meter record less its settings. The meters of a LINKED pair hold the shared items alike (R139). -/
structure Meter where
  acc : Nat
  clip : Bool
  bar : Nat
  fall : Nat
  hold : Nat
  holdState : HoldState
  holdElapsed : Nat
  lamp : Bool
  lampElapsed : Nat
  /-- Displayed segments, dot position and lamp as the last image build left them. -/
  shown : Shown
  deriving DecidableEq, Repr

/-- The Level Stream Receiver (R152, R153). -/
structure Stream where
  /-- Stream state LIVE. -/
  live : Bool
  /-- When the loss timer last restarted; 0 before READY, where R154 starts it (DESIGN CHOICE, log entry 23). -/
  lossStart : Time
  /-- A frame sync has opened the frame whose bits are being gathered. -/
  gathering : Bool
  deriving DecidableEq, Repr

/-- The Display Scanner (R150). -/
structure Scanner where
  /-- The image most recently handed on by the Meter Engine. -/
  handed : Vector Shown 32
  committed : Vector Shown 32
  committedBrightness : Nat
  deriving DecidableEq, Repr

/-! ## Notice List (Tables 10-6 and 11-1) -/

/-- REST cause. -/
inductive RestCause where
  | heat
  | release
  | cooled
  | touch
  | fault
  deriving DecidableEq, Repr

/-- LANE reason. -/
inductive LaneReason where
  | release
  | recall
  | fault
  | link
  | flushed
  | starved
  deriving DecidableEq, Repr

/-- CAL outcome. -/
inductive CalOutcome where
  | ready
  | badSpan
  | timeout
  | touched
  | faulted
  | linklost
  deriving DecidableEq, Repr

/-- LINK event. -/
inductive LinkEvent where
  | lost
  | restored
  | duplicate
  deriving DecidableEq, Repr

/-- PROFILE result. -/
inductive ProfileResult where
  | stored
  | failed
  | defaults
  deriving DecidableEq, Repr

/-- STARTED cause. -/
inductive StartedCause where
  | power
  | restart
  deriving DecidableEq, Repr

/-- The claim kinds a MOTION notice names (R27). -/
inductive MotionKind where
  | direct
  | follow
  deriving DecidableEq, Repr

/-- The kinds of per-fader notices. -/
inductive FaderNotice where
  | move
  | capture
  | motion
  | fault
  | rest
  | lane
  | cal
  deriving DecidableEq, Repr

/-- The kinds of part notices. -/
inductive PartNotice where
  | stream
  | sync
  | link
  | profile
  | started
  deriving DecidableEq, Repr

/-- A notice's key: its source and its kind (R163). -/
inductive NoticeKey where
  | fader (f : FaderIx) (kind : FaderNotice)
  | recallEnd (tag : Nat)
  | part (kind : PartNotice)
  deriving DecidableEq, Repr

/-- A pending notice: its source and the fields fixed at the latest raise (Table 11-1). -/
inductive Notice where
  | move (f : FaderIx)
  | capture (f : FaderIx)
  | motion (f : FaderIx) (kind : MotionKind) (outcome : Outcome) (pos : Nat) (clamped : Bool)
  | fault (f : FaderIx) (latch : Cond)
  | rest (f : FaderIx) (entered : Bool) (cause : RestCause)
  | lane (f : FaderIx) (reason : LaneReason) (count : Nat)
  | cal (f : FaderIx) (outcome : CalOutcome) (phase : CalPhase) (low high : Option Nat) (span : Option Int)
  | recallEnd (tag : Nat) (page : PageIx) (notStarted : Bool) (items : List (FaderIx × Outcome))
  | stream (restored : Bool)
  | sync (restored : Bool) (count : Nat)
  | link (event : LinkEvent) (teardown : Bool)
  | profile (result : ProfileResult)
  | started (cause : StartedCause)
  deriving DecidableEq, Repr

/-! ## Replies -/

/-- Reply statuses (Table 10-3). -/
inductive Status where
  | ok
  | accepted
  | unknownKind
  | badLength
  | range
  | full
  | order
  | late
  | duplicate
  | touched
  | faulted
  | calibrating
  | laneActive
  | recallActive
  | grouped
  | pageBusy
  | storeBusy
  | nothing
  | notMonotonic
  | state
  deriving DecidableEq, Repr

/-- Group role with a member's offset (R90). -/
inductive Role where
  | none
  | master (g : GroupIx)
  | member (g : GroupIx) (offset : Int)
  deriving DecidableEq, Repr

/-- The FADER-READ snapshot (R35). -/
structure FaderSnapshot where
  state : FaderState
  claim : Claim
  target : Nat
  hold : Nat
  pos : Nat
  lastValid : Nat
  lastReported : Nat
  raw : Nat
  cls : SampleClass
  toPlanned : Option Nat
  toDeadline : Option Nat
  toExpiry : Option Nat
  touch : Bool
  settings : FaderSettings
  pendingCal : Option CalResult
  latched : CondSet
  current : CondSet
  role : Role
  deriving DecidableEq, Repr

/-- The DRIVE-READ snapshot (R70). -/
structure DriveSnapshot where
  budget : Nat
  trip : Nat
  resume : Nat
  holderCount : Nat
  holders : List FaderIx
  /-- Head first, each with the mark CAL-WAIT (true) or WAITING (false). -/
  queue : List (FaderIx × Bool)
  /-- Per fader: heat, whether in REST, drive level of the most recent sample. -/
  faders : List (Nat × Bool × Int)
  deriving DecidableEq, Repr

/-- One member in a GROUP-READ reply (R93). -/
structure MemberSnapshot where
  fader : FaderIx
  offset : Int
  clamped : Bool
  deferred : Bool
  following : Bool
  deriving DecidableEq, Repr

/-- The GROUP-READ snapshot of a group in use (R93). -/
structure GroupSnapshot where
  master : FaderIx
  leading : Bool
  suspended : Bool
  members : List MemberSnapshot
  deriving DecidableEq, Repr

/-- One entry in a RECALL-READ reply: its outcome, or OPEN with the fader's state (R117). -/
inductive EntrySnapshot where
  | resolved (f : FaderIx) (outcome : Outcome)
  | stillOpen (f : FaderIx) (state : FaderState)
  deriving DecidableEq, Repr

/-- A RUNNING recall's extra items in a RECALL-READ reply (R117). -/
structure RunSnapshot where
  elapsed : Nat
  lateness : Nat
  expiry : Nat
  entries : List EntrySnapshot
  deriving DecidableEq, Repr

/-- One recall in a RECALL-READ reply (R117). -/
structure RecallSnapshot where
  tag : Nat
  page : PageIx
  condition : StartCondition
  run : Option RunSnapshot
  deriving DecidableEq, Repr

/-- The Timeline items of a TIME-SET, TRANSPORT or TIME-SOURCE reply (R120): the seven of Table 8-1. That the sync timer is
reported as the time elapsed and the generator phase as a time of the part's clock is the model's choice (DESIGN CHOICE,
log entry 37). -/
structure TimelineItems where
  count : Nat
  run : Bool
  source : Source
  rate : FrameRate
  locked : Bool
  syncTimer : Time
  phase : Time
  deriving DecidableEq, Repr

/-- The Timeline items of a LANE-READ reply: the five R137 names. -/
structure TimelineSnapshot where
  count : Nat
  run : Bool
  source : Source
  rate : FrameRate
  locked : Bool
  deriving DecidableEq, Repr

/-- The LANE-READ snapshot (R137). -/
structure LaneSnapshot where
  timeline : TimelineSnapshot
  suspended : Bool
  lane : Lane
  deriving DecidableEq, Repr

/-- One meter in a METER-SET reply (R140). -/
structure MeterSnapshot where
  settings : MeterSettings
  linked : Bool
  shown : Shown
  deriving DecidableEq, Repr

/-- The data of a reply, as the owner's rule names it. COLLECT and IDENTIFY data are bytes (10-8 gives their layout). -/
inductive ReplyData where
  | none
  | detent (value : Nat)
  | conditions (latched current : CondSet)
  | refusedAt (f : FaderIx)
  | calibration (low high : Nat)
  | fader (snap : FaderSnapshot)
  | drive (snap : DriveSnapshot)
  | offsets (members : List (FaderIx × Int))
  | group (snap : Option GroupSnapshot)
  | page (glide : Nat) (entries : List Entry) (recalls : Nat)
  | recallTaken (tag : Nat) (started : Bool)
  | recallNamed (tag : Nat) (page : PageIx)
  | recallHalted (tag : Nat)
  | recalls (lateness expiry : Nat) (queue : List RecallSnapshot)
  | timeline (items : TimelineItems)
  | queued (points : Nat)
  | lane (snap : LaneSnapshot)
  | meters (list : List MeterSnapshot)
  | taken (entries : Nat)
  | shown (list : List Shown)
  | bytes (data : List Byte)
  deriving DecidableEq, Repr

/-- A reply waiting to be sent or being sent (R158): the part's address, the request's kind code, status and data, and
the link rate in force when the request was taken. -/
structure Reply where
  address : Nat
  kind : Nat
  status : Status
  data : ReplyData
  rate : LinkRate
  deriving DecidableEq, Repr

/-! ## Link Port (Table 10-2) -/

/-- Receiver state. -/
inductive Receiver where
  | waitIdle
  | ready
  | inFrame
  | replying
  deriving DecidableEq, Repr

/-- The Link Port's items. Link timeout and the rate last set are working settings; `rate` is the rate in force. -/
structure Link where
  address : Nat
  rate : LinkRate
  /-- Supervision state LINK-LOST. -/
  lost : Bool
  /-- When the supervision timer last restarted. -/
  supStart : Time
  duplicate : Bool
  receiver : Receiver
  /-- The bytes of the frame being received. -/
  bytes : List Byte
  reply : Option Reply
  /-- The DIR output. -/
  dir : Bool
  deriving DecidableEq, Repr

/-! ## Profile Store and part -/

/-- The non-volatile copy (R168, R169): the settings it holds, the check value held with them, and whether the check
value computed over the contents agrees with it. -/
structure StoredProfile where
  contents : Settings
  check : BitVec 16
  intact : Bool
  deriving DecidableEq, Repr

/-- Where the part stands between chip reset and READY (R169). -/
inductive PartState where
  | inReset
  | starting
  | ready
  deriving DecidableEq, Repr

/-- The whole FMC16. -/
structure State where
  /-- The part's clock (the model's own; log entry 1). -/
  now : Time
  part : PartState
  /-- The working settings. -/
  settings : Settings
  stored : StoredProfile
  /-- The snapshot being written while STORING; absent while IDLE. -/
  storing : Option Settings
  /-- Profile state VALID. -/
  profileValid : Bool
  faders : Vector Fader 16
  /-- The admission queue, head first (R59). -/
  queue : List FaderIx
  groups : Vector (Option Group) 4
  pages : Vector Page 4
  /-- The recall queue, head first (R104). -/
  recalls : List Recall
  timeline : Timeline
  meters : Vector Meter 32
  /-- The earliest time of the next display frame (R143). -/
  nextDisplay : Time
  /-- The earliest time of the next scan frame start (R150). -/
  nextScan : Time
  stream : Stream
  scanner : Scanner
  link : Link
  /-- The Notice List, head first (R163). -/
  notices : List Notice
  /-- The commands waiting, first in first out (the model's own). -/
  pending : List Instr
  deriving DecidableEq, Repr

/-- Faults: none. The spec stops the part on no command; what it turns away it answers with a reply status. -/
inductive Fault
  deriving DecidableEq, Repr

/-- Refusals. -/
inductive Refusal where
  /-- Raised by exec's arm of a command whose meaning is not written yet: safe, since nothing is claimed of it. -/
  | notModelled (mnemonic : String)
  deriving DecidableEq, Repr

/-! ## The values at chip reset -/

/-- A meter after chip reset or RESTART (R154). -/
def Meter.reset : Meter where
  acc := 255
  clip := false
  bar := 255
  fall := 0
  hold := 255
  holdState := .holding
  holdElapsed := 0
  lamp := false
  lampElapsed := 0
  shown := ⟨0, 0, false⟩

/-- A lane after chip reset or RESTART (R127). -/
def Lane.reset : Lane where
  enabled := false
  chase := 200
  queue := []
  current := none
  value := none
  segment := none
  starved := false
  lastTime := none

/-- The Fault Monitor items after chip reset or RESTART (R80). -/
def FaultItems.reset : FaultItems where
  current := ⟨false, false, false⟩
  latched := ⟨false, false, false⟩
  stallRun := none
  trackRun := none
  overcurrentRun := none
  lastLatch := none

/-- A fader record at a given position with everything else as R39 lays down. -/
def FaderRecord.at (pos : Nat) : FaderRecord where
  state := .parked
  claim := .none
  target := pos
  hold := pos
  lastReported := pos
  planned := none
  deadline := none
  expiry := none
  pendingCal := none

/-- The Motion Generator items at a given position (R41). -/
def Motion.at (pos : Nat) : Motion where
  setpoint := pos
  ramp := .none
  drive := 0
  settleCount := 0
  granted := none

/-- A fader while RESET is low. Raw reading, class and positions, which the spec sets at the first sample only, are 0
and IN-WINDOW (DESIGN CHOICE, log entry 4); so is the drive level of the most recent sample 0 (DESIGN CHOICE, log entry
42). -/
def Fader.reset : Fader where
  track := ⟨0, .inWindow, 0, 0, false, 0⟩
  touch := ⟨false, 0, 0, [], false, 0⟩
  record := FaderRecord.at 0
  motion := Motion.at 0
  heat := ⟨0, 0, false, 0, 0⟩
  fault := FaultItems.reset
  cal := none
  lane := Lane.reset

/-- An empty page (R101). -/
def Page.empty : Page := ⟨0, []⟩

/-- A dark image (R154). -/
def darkImage : Vector Shown 32 := Vector.replicate 32 ⟨0, 0, false⟩

/-- The FMC16 at power-on with RESET low (R169): every block at the reset values its chapter gives. The stored
profile a new part holds is the defaults without an agreeing check value (DESIGN CHOICE, log entry 5); address and
committed brightness before the straps and the profile are read are 0 and dark (DESIGN CHOICE, log entry 4); working
settings, link rate in force and profile state before the profile is read are the defaults of Table 12-1, 1 Mbit/s and
DEFAULTS (DESIGN CHOICE, log entry 35); the generator phase is 0 (DESIGN CHOICE, log entry 49), and the
supervision, sync and loss timers, which start at READY, stand at 0 (DESIGN CHOICE, log entry 23). -/
def State.reset : State where
  now := 0
  part := .inReset
  settings := Settings.default
  stored := ⟨Settings.default, 0, false⟩
  storing := none
  profileValid := false
  faders := Vector.replicate 16 Fader.reset
  queue := []
  groups := Vector.replicate 4 none
  pages := Vector.replicate 4 Page.empty
  recalls := []
  timeline := ⟨0, false, true, 0, 0, 0⟩
  meters := Vector.replicate 32 Meter.reset
  nextDisplay := 0
  nextScan := 0
  stream := ⟨true, 0, false⟩
  scanner := ⟨darkImage, darkImage, 0⟩
  link := ⟨0, .one, false, 0, false, .waitIdle, [], none, false⟩
  notices := []
  pending := []

end Sys2Proof.Machine
end

