-- ==== Sys2Proof/Config.lean ====
section
/-! DEFINITION. What each implementation fixes, and the values the spec leaves open: constants without a body, so that
no proof can lean on a value of theirs. -/

namespace Sys2Proof

/-- The silicon revision less 1 (Table 10-8: revision 1-255; each silicon fixes it). Log entry 6. -/
opaque Config.revision : Fin 255

/-- Whether a reply that gives a time in whole milliseconds counts a begun millisecond (of so many sixths) as a whole
one: R35 and R117 give the unit and no rounding. Log entry 7. -/
opaque Config.countsBegun : Nat → Bool

/-- The bytes a snapshot of the working settings takes in the store, over which R168's check value is computed; the spec
gives them no layout. Log entry 8. -/
opaque Config.profileBytes : Machine.Settings → List Byte

/-- The data bytes of a reply whose data the spec gives as named fields without a layout. Log entry 9. -/
opaque Config.replyBytes : Machine.ReplyData → List Byte

/-- The check value found in a store whose writing a chip reset cut short at a given time (R169 says only that the
profile then fails its check). Log entry 27. -/
opaque Config.cutShortCheck : Time → BitVec 16

end Sys2Proof
end

