-- ==== Sys2Proof/Machine/Flags.lean ====
section
/-! DEFINITION. What the spec reads off a state name or a set of conditions: which states drive the motor, hold a slot,
stand in the admission queue, take a claim, are tested for a MOVE notice; and the arithmetic of condition sets. -/

namespace Sys2Proof.Machine

/-- The motor is driven and a drive slot is held (R16, Table 2-2): TRAVEL, SETTLE, CAL-DOWN, CAL-UP. -/
def FaderState.driven : FaderState → Bool
  | .travel => true
  | .settle => true
  | .calibrating .calDown => true
  | .calibrating .calUp => true
  | _ => false

/-- The fader stands in the admission queue (R59): WAITING, CAL-WAIT. -/
def FaderState.queued : FaderState → Bool
  | .waiting => true
  | .calibrating .calWait => true
  | _ => false

/-- The states of Table 2-4, in which an arriving claim is taken. -/
def FaderState.takesClaims : FaderState → Bool
  | .parked => true
  | .waiting => true
  | .travel => true
  | .settle => true
  | .rest => true
  | _ => false

/-- WAITING, TRAVEL or SETTLE: a move is in progress. -/
def FaderState.moving : FaderState → Bool
  | .waiting => true
  | .travel => true
  | .settle => true
  | _ => false

/-- The states in which R28 makes the MOVE test. -/
def FaderState.testsMove : FaderState → Bool
  | .parked => true
  | .waiting => true
  | .touched => true
  | .rest => true
  | .faulted => true
  | _ => false

/-- The states in which the trip test finds a trip (R65). -/
def FaderState.trips : FaderState → Bool
  | .waiting => true
  | .travel => true
  | .settle => true
  | .calibrating .calWait => true
  | .calibrating .calDown => true
  | .calibrating .calUp => true
  | _ => false

/-- CAL-DOWN or CAL-UP (R73, R82, R83). -/
def FaderState.finding : FaderState → Bool
  | .calibrating .calDown => true
  | .calibrating .calUp => true
  | _ => false

/-- The phase, while CALIBRATING. -/
def FaderState.phase : FaderState → Option CalPhase
  | .calibrating p => some p
  | _ => none

/-- The claim is LANE, suspended or not. -/
def Claim.isLane : Claim → Bool
  | .lane _ => true
  | _ => false

/-- The claim is RECALL. -/
def Claim.isRecall : Claim → Bool
  | .recall _ _ => true
  | _ => false

/-- The claim is FOLLOW. -/
def Claim.isFollow : Claim → Bool
  | .follow _ => true
  | _ => false

/-- No condition. -/
def CondSet.empty : CondSet := ⟨false, false, false⟩

/-- The set holds no condition. -/
def CondSet.isEmpty (c : CondSet) : Bool := !(c.stall || c.track || c.overcurrent)

/-- Membership. -/
def CondSet.has (c : CondSet) : Cond → Bool
  | .stall => c.stall
  | .track => c.track
  | .overcurrent => c.overcurrent

/-- The set with one condition added. -/
def CondSet.add (c : CondSet) : Cond → CondSet
  | .stall => ⟨true, c.track, c.overcurrent⟩
  | .track => ⟨c.stall, true, c.overcurrent⟩
  | .overcurrent => ⟨c.stall, c.track, true⟩

/-- The set with the conditions of `d` taken out where `keep` does not hold them (R79: a current one stays). -/
def CondSet.clear (c d keep : CondSet) : CondSet :=
  ⟨c.stall && !(d.stall && !keep.stall), c.track && !(d.track && !keep.track),
    c.overcurrent && !(d.overcurrent && !keep.overcurrent)⟩

end Sys2Proof.Machine
end

