-- ==== Sys2Proof/Machine/Operands.lean ====
section
/-! DEFINITION. Operand forms: numbers as the payload bytes spell them, turned into faders, meters, sets and enumerated
values, or found out of range (10-8: an enumerated value is its place in Table 10-7 from 0, and a value beyond the last
place is out of range); and the same values as they are sent in replies and notice records. -/

namespace Sys2Proof.Machine

/-- A fader number, or out of range. -/
def faderOf (n : Nat) : Option FaderIx := if h : n < 16 then some ⟨n, h⟩ else none

/-- A meter number, or out of range. -/
def meterOf (n : Nat) : Option MeterIx := if h : n < 32 then some ⟨n, h⟩ else none

/-- A group number, or out of range. -/
def groupOf (n : Nat) : Option GroupIx := if h : n < 4 then some ⟨n, h⟩ else none

/-- A page number, or out of range. -/
def pageOf (n : Nat) : Option PageIx := if h : n < 4 then some ⟨n, h⟩ else none

/-- The faders of a set in fader order: bit n stands for Fn. -/
def fadersOf (set : BitVec 16) : List FaderIx := allFaders.filter fun f => set.getLsbD f.val

/-- The meters of a set in meter order: bit n stands for Mn. -/
def metersOf (set : BitVec 32) : List MeterIx := allMeters.filter fun m => set.getLsbD m.val

/-- Release behaviour: RETURN, STAY. -/
def releaseOf : Nat → Option Release
  | 0 => some .return
  | 1 => some .stay
  | _ => none

/-- off, on; clear, set; UNLINKED, LINKED. -/
def flagOf : Nat → Option Bool
  | 0 => some false
  | 1 => some true
  | _ => none

/-- STEP, RAMP. -/
def shapeOf : Nat → Option Shape
  | 0 => some .step
  | 1 => some .ramp
  | _ => none

/-- RUN (true), STOP. -/
def transportOf : Nat → Option Bool
  | 0 => some true
  | 1 => some false
  | _ => none

/-- EXTERNAL, INTERNAL, LINK. -/
def sourceOf : Nat → Option Source
  | 0 => some .external
  | 1 => some .internal
  | 2 => some .link
  | _ => none

/-- The frame rate is sent as its number of frames per second (10-8). -/
def frameRateOf : Nat → Option FrameRate
  | 24 => some .fps24
  | 25 => some .fps25
  | 30 => some .fps30
  | 50 => some .fps50
  | 60 => some .fps60
  | _ => none

/-- 0.5, 1, 2 Mbit/s. -/
def linkRateOf : Nat → Option LinkRate
  | 0 => some .half
  | 1 => some .one
  | 2 => some .two
  | _ => none

/-- PEAK, PROGRAMME, AVERAGE. -/
def modeOf : Nat → Option MeterMode
  | 0 => some .peak
  | 1 => some .programme
  | 2 => some .average
  | _ => none

/-- STREAM, LINK. -/
def meterSourceOf : Nat → Option MeterSource
  | 0 => some .stream
  | 1 => some .link
  | _ => none

/-- A, B. -/
def tableOf : Nat → Option TableName
  | 0 => some .a
  | 1 => some .b
  | _ => none

/-- NOW, FIRE, AT with its count. -/
def conditionOf (code count : Nat) : Option StartCondition :=
  match code with
  | 0 => some .now
  | 1 => some .fire
  | 2 => some (.at count)
  | _ => none

/-- A set of fault conditions: STALL in bit 0, TRACK in bit 1, OVERCURRENT in bit 2; the other bits name no condition
(log entry 10). -/
def condSetOf (n : Nat) : CondSet := ⟨n.testBit 0, n.testBit 1, n.testBit 2⟩

/-- Table 10-9: a glide of all ones is absent. -/
def optionalGlide (n : Nat) : Option Nat := if n = 65535 then none else some n

/-- A present value passes its test; an absent one always does. -/
def okWhen (v : Option Nat) (p : Nat → Bool) : Bool :=
  match v with
  | none => true
  | some n => p n

/-- Reply status codes (Table 10-3). -/
def Status.code : Status → Nat
  | .ok => 0
  | .accepted => 1
  | .unknownKind => 2
  | .badLength => 3
  | .range => 4
  | .full => 5
  | .order => 6
  | .late => 7
  | .duplicate => 8
  | .touched => 9
  | .faulted => 10
  | .calibrating => 11
  | .laneActive => 12
  | .recallActive => 13
  | .grouped => 14
  | .pageBusy => 15
  | .storeBusy => 16
  | .nothing => 17
  | .notMonotonic => 18
  | .state => 19

/-- Outcome codes (Table 10-7). -/
def Outcome.code : Outcome → Nat
  | .arrived => 0
  | .late => 1
  | .overridden => 2
  | .superseded => 3
  | .halted => 4
  | .faulted => 5
  | .skipped => 6
  | .expired => 7
  | .linklost => 8

/-- Claim kind codes (Table 10-7) of the kinds a MOTION notice carries. -/
def MotionKind.code : MotionKind → Nat
  | .direct => 1
  | .follow => 4

/-- Condition codes. -/
def Cond.code : Cond → Nat
  | .stall => 0
  | .track => 1
  | .overcurrent => 2

/-- A set of conditions as its byte (10-8). -/
def CondSet.code (c : CondSet) : Nat :=
  (if c.stall then 1 else 0) + (if c.track then 2 else 0) + (if c.overcurrent then 4 else 0)

/-- REST cause codes. -/
def RestCause.code : RestCause → Nat
  | .heat => 0
  | .release => 1
  | .cooled => 2
  | .touch => 3
  | .fault => 4

/-- LANE reason codes. -/
def LaneReason.code : LaneReason → Nat
  | .release => 0
  | .recall => 1
  | .fault => 2
  | .link => 3
  | .flushed => 4
  | .starved => 5

/-- CAL outcome codes. -/
def CalOutcome.code : CalOutcome → Nat
  | .ready => 0
  | .badSpan => 1
  | .timeout => 2
  | .touched => 3
  | .faulted => 4
  | .linklost => 5

/-- CAL phase codes. -/
def CalPhase.code : CalPhase → Nat
  | .calWait => 0
  | .calDown => 1
  | .calUp => 2
  | .calReview => 3

/-- LINK event codes. -/
def LinkEvent.code : LinkEvent → Nat
  | .lost => 0
  | .restored => 1
  | .duplicate => 2

/-- PROFILE result codes. -/
def ProfileResult.code : ProfileResult → Nat
  | .stored => 0
  | .failed => 1
  | .defaults => 2

/-- STARTED cause codes. -/
def StartedCause.code : StartedCause → Nat
  | .power => 0
  | .restart => 1

/-- The strap's share of the address (R169). -/
def strapValue : Strap → Nat
  | .ground => 0
  | .midRail => 1
  | .openPin => 2
  | .supply => 3

/-- The frame period of a rate (R121): 1 s divided by the rate, in sixths of a millisecond. -/
def FrameRate.period : FrameRate → Time
  | .fps24 => 250
  | .fps25 => 240
  | .fps30 => 200
  | .fps50 => 120
  | .fps60 => 100

/-- One byte. -/
def byte1 (n : Nat) : List Byte := [BitVec.ofNat 8 n]

/-- Two bytes, least significant first (10-8). -/
def byte2 (n : Nat) : List Byte := [BitVec.ofNat 8 n, BitVec.ofNat 8 (n / 256)]

/-- Three bytes, least significant first. -/
def byte3 (n : Nat) : List Byte := [BitVec.ofNat 8 n, BitVec.ofNat 8 (n / 256), BitVec.ofNat 8 (n / 65536)]

/-- An optional two-byte field: all ones when absent (10-8). -/
def optional2 : Option Nat → List Byte
  | some n => byte2 n
  | none => byte2 65535

/-- An optional signed two-byte field in two's complement. -/
def optionalSigned2 : Option Int → List Byte
  | some i => byte2 (BitVec.ofInt 16 i).toNat
  | none => byte2 65535

/-- A mark as a bit of weight `w`. -/
def mark (b : Bool) (w : Nat) : Nat := if b then w else 0

end Sys2Proof.Machine
end

