-- ==== Sys2Proof/Machine/Ops.lean ====
section
/-! DEFINITION. The shared operations every meaning is built from: reading and writing one fader's items, raising a
notice, group look-ups and retrim, laying a ramp, state transitions with motor, slot and queue, the heat trip, the grant
rule, disabling a lane and writing an entry's outcome. -/

namespace Sys2Proof.Machine

/-! ## One fader's items -/

/-- The items of fader `f`. -/
def State.fader (s : State) (f : FaderIx) : Fader := s.faders[f.val]

/-- Fader `f` with its items changed by `g`; nothing else changes. -/
def State.modFader (s : State) (f : FaderIx) (g : Fader → Fader) : State :=
  { s with faders := s.faders.set f.val (g (s.fader f)) }

/-- The fader record changed by `g`. -/
def State.modRecord (s : State) (f : FaderIx) (g : FaderRecord → FaderRecord) : State :=
  s.modFader f fun x => { x with record := g x.record }

/-- The Motion Generator's items changed by `g`. -/
def State.modMotion (s : State) (f : FaderIx) (g : Motion → Motion) : State :=
  s.modFader f fun x => { x with motion := g x.motion }

/-- The Track Sense items changed by `g`. -/
def State.modTrack (s : State) (f : FaderIx) (g : Track → Track) : State :=
  s.modFader f fun x => { x with track := g x.track }

/-- The Touch Sense items changed by `g`. -/
def State.modTouch (s : State) (f : FaderIx) (g : Touch → Touch) : State :=
  s.modFader f fun x => { x with touch := g x.touch }

/-- The heat items changed by `g`. -/
def State.modHeat (s : State) (f : FaderIx) (g : Heat → Heat) : State :=
  s.modFader f fun x => { x with heat := g x.heat }

/-- The Fault Monitor's items changed by `g`. -/
def State.modFault (s : State) (f : FaderIx) (g : FaultItems → FaultItems) : State :=
  s.modFader f fun x => { x with fault := g x.fault }

/-- The lane record changed by `g`. -/
def State.modLane (s : State) (f : FaderIx) (g : Lane → Lane) : State :=
  s.modFader f fun x => { x with lane := g x.lane }

/-- The Calibration Sequencer's items replaced. -/
def State.setCal (s : State) (f : FaderIx) (c : Option CalRun) : State :=
  s.modFader f fun x => { x with cal := c }

/-- The fader's state. -/
def State.stateOf (s : State) (f : FaderIx) : FaderState := (s.fader f).record.state

/-- The claim the fader holds. -/
def State.claimOf (s : State) (f : FaderIx) : Claim := (s.fader f).record.claim

/-- The fader's target. -/
def State.targetOf (s : State) (f : FaderIx) : Nat := (s.fader f).record.target

/-- The fader's hold target. -/
def State.holdOf (s : State) (f : FaderIx) : Nat := (s.fader f).record.hold

/-- The fader's position. -/
def State.posOf (s : State) (f : FaderIx) : Nat := (s.fader f).track.pos

/-- The fader's heat. -/
def State.heatOf (s : State) (f : FaderIx) : Nat := (s.fader f).heat.heat

/-- The working settings of fader `f`. -/
def State.config (s : State) (f : FaderIx) : FaderSettings := s.settings.faders[f.val]

/-- The working settings changed by `g`. -/
def State.modSettings (s : State) (g : Settings → Settings) : State := { s with settings := g s.settings }

/-- The working settings of fader `f` changed by `g`. -/
def State.modConfig (s : State) (f : FaderIx) (g : FaderSettings → FaderSettings) : State :=
  s.modSettings fun c => { c with faders := c.faders.set f.val (g c.faders[f.val]) }

/-- The position lies within the arrival window of `t` (R17, R19). -/
def State.within (s : State) (f : FaderIx) (t : Nat) : Bool := dist (s.posOf f) t ≤ (s.config f).arrivalWindow

/-- R17: a fader needs drive when its position is farther from its target than its arrival window. -/
def State.needsDrive (s : State) (f : FaderIx) : Bool := !(s.within f (s.targetOf f))

/-- The faders one after another: a block's rule that takes them in order. -/
def State.each (s : State) (l : List FaderIx) (g : FaderIx → State → State) : State := l.foldl (fun s f => g f s) s

/-! ## Notices (R163, R164) -/

/-- The key of a notice. -/
def Notice.key : Notice → NoticeKey
  | .move f => .fader f .move
  | .capture f => .fader f .capture
  | .motion f _ _ _ _ => .fader f .motion
  | .fault f _ => .fader f .fault
  | .rest f _ _ => .fader f .rest
  | .lane f _ _ => .fader f .lane
  | .cal f _ _ _ _ _ => .fader f .cal
  | .recallEnd tag _ _ _ => .recallEnd tag
  | .stream _ => .part .stream
  | .sync _ _ => .part .sync
  | .link _ _ => .part .link
  | .profile _ => .part .profile
  | .started _ => .part .started

/-- What a raise makes of a pending notice with its key: its fields replaced, but for the LINK notice's teardown mark,
which stays set once set (R160, R164). -/
def Notice.refresh (new old : Notice) : Notice :=
  match new, old with
  | .link e t, .link _ t' => .link e (t || t')
  | n, _ => n

/-- A notice raised into a list: refreshed in place when its key is pending, else placed at the tail (R164). -/
def raiseInto (n : Notice) : List Notice → List Notice
  | [] => [n]
  | m :: rest => if m.key = n.key then n.refresh m :: rest else m :: raiseInto n rest

/-- A block raises a notice (R164). -/
def State.raise (s : State) (n : Notice) : State := { s with notices := raiseInto n s.notices }

/-- A notice with this key is pending. -/
def State.isPending (s : State) (k : NoticeKey) : Bool := s.notices.any fun n => n.key = k

/-- R163: the part pulls ATTN low exactly while its Notice List is not empty. -/
def State.attn (s : State) : Bool := !s.notices.isEmpty

/-- R28: the MOVE test. -/
def State.moveTest (s : State) (f : FaderIx) : State :=
  if (s.stateOf f).testsMove && !(s.fader f).fault.current.track
      && decide ((s.config f).reportStep ≤ dist (s.posOf f) (s.fader f).record.lastReported) then
    s.raise (.move f)
  else s

/-- The MOVE test at an entry into a state, left out where the event raises a MOTION notice for the fader (R28). -/
def State.entryTest (s : State) (f : FaderIx) (quiet : Bool) : State := if quiet then s else s.moveTest f

/-! ## Groups (R90, R98) -/

/-- The record of a group in use. -/
def State.group (s : State) (g : GroupIx) : Option Group := s.groups[g.val]

/-- The group record replaced. -/
def State.setGroup (s : State) (g : GroupIx) (r : Option Group) : State :=
  { s with groups := s.groups.set g.val r }

/-- A member's items in a group. -/
def Group.member (r : Group) (f : FaderIx) : Option Member := r.members.find? fun m => m.fader = f

/-- A member's items changed by `h`. -/
def Group.modMember (r : Group) (f : FaderIx) (h : Member → Member) : Group :=
  { r with members := r.members.map fun m => if m.fader = f then h m else m }

/-- The group `f` is master of. -/
def State.masterOf (s : State) (f : FaderIx) : Option GroupIx :=
  allGroups.find? fun g => match s.group g with
    | some r => r.master = f
    | none => false

/-- The group `f` is a member of, with the group's record and the member's items. -/
def State.memberOf (s : State) (f : FaderIx) : Option (GroupIx × Group × Member) :=
  allGroups.findSome? fun g => match s.group g with
    | some r => (r.member f).map fun m => (g, r, m)
    | none => none

/-- The group role the fader record shows (R90). -/
def State.roleOf (s : State) (f : FaderIx) : Role :=
  match s.masterOf f with
  | some g => .master g
  | none => match s.memberOf f with
    | some (g, _, m) => .member g m.offset
    | none => .none

/-- The items of member `f` changed by `h`, in whichever group it is a member of. -/
def State.modMember (s : State) (f : FaderIx) (h : Member → Member) : State :=
  { s with groups := s.groups.map fun o => o.map fun r => r.modMember f h }

/-- The group leads at present. -/
def State.leading (s : State) (g : GroupIx) : Bool :=
  match s.group g with
  | some r => r.leading
  | none => false

/-- The member's clamped mark (R95). -/
def State.clampedOf (s : State) (f : FaderIx) : Bool :=
  match s.memberOf f with
  | some (_, _, m) => m.clamped
  | none => false

/-- R98: a retrim sets the member's offset to its position minus its master's and clears its deferred mark. -/
def State.retrim (s : State) (f : FaderIx) : State :=
  match s.memberOf f with
  | some (_, r, _) =>
    s.modMember f fun m => { m with offset := (s.posOf f : Int) - (s.posOf r.master : Int), deferred := false }
  | none => s

/-- R98: a retrim is called for; while the member holds a FOLLOW claim it is deferred. -/
def State.callRetrim (s : State) (f : FaderIx) : State :=
  if (s.claimOf f).isFollow then s.modMember f fun m => { m with deferred := true } else s.retrim f

/-- R98: at the end of a FOLLOW claim a deferred retrim is made. -/
def State.deferredRetrim (s : State) (f : FaderIx) : State :=
  match s.memberOf f with
  | some (_, _, m) => if m.deferred then s.retrim f else s
  | none => s

/-- The members of the group `f` is master of, in list order. -/
def State.followersOf (s : State) (f : FaderIx) : List FaderIx :=
  match s.masterOf f with
  | some g => match s.group g with
    | some r => r.members.map (·.fader)
    | none => []
  | none => []

/-- What the Group Follower does at the end of the claim `old` of fader `f` (R26, R98): the member's own retrim, a
deferred one at the end of FOLLOW, and every member's at the end of a RECALL or LANE claim of the master, in the LINK-LOST
teardown as at any other end, the model's choice against R99 (log entry 39). -/
def State.claimEnded (s : State) (f : FaderIx) (old : Claim) : State :=
  match old with
  | .none => s
  | .direct => s.callRetrim f
  | .follow _ => s.deferredRetrim f
  | .recall _ _ => (s.callRetrim f).each (s.followersOf f) fun m s => s.callRetrim m
  | .lane _ => (s.callRetrim f).each (s.followersOf f) fun m s => s.callRetrim m

/-! ## Motion items -/

/-- R43: the longer of the time remaining to the planned arrival and the speed time, in 0.5 ms units rounded up; a ramp
whose start equals its end lasts 0 ms, whatever time remains (R44, R45). -/
def rampDuration (now : Time) (planned : Option Time) (distance speed : Nat) : Nat :=
  if distance = 0 then 0 else max (ceilDiv (planned.getD now - now) 3) (ceilDiv (2 * distance) speed)

/-- A ramp of a given duration is laid from `start` to the target at the present time. -/
def State.layRampFor (s : State) (f : FaderIx) (start duration : Nat) : State :=
  s.modMotion f fun m =>
    { m with setpoint := start, ramp := .running ⟨start, s.targetOf f, s.now, duration⟩, settleCount := 0 }

/-- A ramp is laid from `start` to the target at the present time (R43, R45). -/
def State.layRamp (s : State) (f : FaderIx) (start : Nat) : State :=
  s.layRampFor f start
    (rampDuration s.now (s.fader f).record.planned (dist start (s.targetOf f)) (s.config f).speedLimit)

/-- R61: the fader was put into TRAVEL by a grant at this very time, and no sample has come since. -/
def State.justGranted (s : State) (f : FaderIx) : Bool := decide ((s.fader f).motion.granted = some s.now)

/-- R45: the ramp laid from the setpoint at a target change in TRAVEL or SETTLE; it lasts 0 ms where a grant and a change
that leaves the fader within its arrival window come together (R61; log entry 36). -/
def State.relayRamp (s : State) (f : FaderIx) : State :=
  if s.justGranted f && !s.needsDrive f then s.layRampFor f (s.fader f).motion.setpoint 0
  else s.layRamp f (s.fader f).motion.setpoint

/-- The motor goes off: no ramp, drive level 0 %, settle count 0 (R42), and the grant is over. -/
def State.motorOff (s : State) (f : FaderIx) : State :=
  s.modMotion f fun m => { m with ramp := .none, drive := 0, settleCount := 0, granted := none }

/-! ## State transitions, slots and the admission queue (R16, R58, R59) -/

/-- The fader is a slot holder (R58, Table 4-1). -/
def State.holdsSlot (s : State) (f : FaderIx) : Bool := (s.stateOf f).driven

/-- The set of slot holders, in fader order. -/
def State.holders (s : State) : List FaderIx := allFaders.filter s.holdsSlot

/-- The fader leaves the admission queue; those behind it close up (R59). -/
def State.leaveQueue (s : State) (f : FaderIx) : State := { s with queue := s.queue.filter (· ≠ f) }

/-- A transition of the fader record to state `st` with what R16 ties to it: the motor goes off in a state whose motor
column is off, a place in the admission queue is given up on leaving WAITING or CAL-WAIT, and one at the tail is taken on
entering them. A slot is released by the change of state itself, since the holders are the faders in driven states. -/
def State.goTo (s : State) (f : FaderIx) (st : FaderState) : State :=
  let s := if (s.stateOf f).queued then s.leaveQueue f else s
  let s := if st.driven then s else s.motorOff f
  let s := s.modRecord f fun r => { r with state := st }
  if st.queued then { s with queue := s.queue ++ [f] } else s

/-- Target and hold target become the position (R22, R26, R36). -/
def State.holdHere (s : State) (f : FaderIx) : State :=
  s.modRecord f fun r => { r with target := s.posOf f, hold := s.posOf f }

/-- The claim becomes NONE, and planned arrival, deadline and expiry are cleared (R26). -/
def State.clearClaim (s : State) (f : FaderIx) : State :=
  s.modRecord f fun r => { r with claim := .none, planned := none, deadline := none, expiry := none }

/-- The Calibration Sequencer ends the fader's run: CAL notice with the phase and the captured values, which are then
discarded with any pending result (R87, R88). -/
def State.endCalibration (s : State) (f : FaderIx) (outcome : CalOutcome) (span : Option Int) : State :=
  match (s.stateOf f).phase with
  | none => s
  | some p =>
    let low := (s.fader f).cal.bind (·.low)
    let high := (s.fader f).cal.bind (·.high)
    ((s.raise (.cal f outcome p low high span)).setCal f none).modRecord f fun r => { r with pendingCal := none }

/-- R65, R37: a heat trip. From WAITING, TRAVEL and SETTLE the claim and its times are kept; a calibration ends TIMEOUT
and the fader rests with claim NONE at its position. The released slot is offered by the caller (`grant`). -/
def State.trip (s : State) (f : FaderIx) (quiet : Bool) : State :=
  if (s.stateOf f).trips then
    if (s.stateOf f).moving then
      ((s.goTo f .rest).entryTest f quiet).raise (.rest f true .heat)
    else
      ((((((s.endCalibration f .timeout none).goTo f .rest).clearClaim f).holdHere f).entryTest f quiet).raise
        (.rest f true .heat))
  else s

/-- R65: the trip test. -/
def State.tripTest (s : State) (f : FaderIx) (quiet : Bool) : State :=
  if s.settings.heatTrip ≤ s.heatOf f then s.trip f quiet else s

/-- R82, R83: the drive level of a calibration phase, open loop, in percent. -/
def CalPhase.drive : CalPhase → Int
  | .calDown => -35
  | .calUp => 35
  | _ => 0

/-- R82, R83: a fader passes into a driven calibration phase, at that phase's drive level in the same event (5-10). -/
def State.enterCalPhase (s : State) (f : FaderIx) (p : CalPhase) : State :=
  (s.goTo f (.calibrating p)).modMotion f fun m => { m with drive := p.drive }

/-- R60: the grant of a slot to a fader of the queue. WAITING goes to TRAVEL with its ramp laid from its position
(R43); CAL-WAIT goes to CAL-DOWN, where the down phase begins (R82) and a track run is discarded (R73). -/
def State.grantTo (s : State) (f : FaderIx) : State :=
  let s := s.leaveQueue f
  match s.stateOf f with
  | .waiting => ((s.goTo f .travel).layRamp f (s.posOf f)).modMotion f fun m => { m with granted := some s.now }
  | .calibrating .calWait =>
    let s := s.enterCalPhase f .calDown
    let s := s.modFault f fun x => { x with trackRun := none, current := { x.current with track := false } }
    s.setCal f ((s.fader f).cal.map fun c => { c with timing := some ⟨s.now, (s.fader f).track.raw, s.now⟩ })
  | _ => s

/-- The grant rule along a list of waiting faders. -/
def grantAlong : List FaderIx → State → State
  | [], s => s
  | f :: rest, s => if s.holders.length < s.settings.budget then grantAlong rest (s.grantTo f) else s

/-- R60: while fewer slots are held than the budget and the queue is not empty, its head is granted a slot. -/
def State.grant (s : State) : State := grantAlong s.queue s

/-- Entry to WAITING: append at the tail, MOVE test, heat test, grant rule (R16, R28, R59). -/
def State.enterWaiting (s : State) (f : FaderIx) (quiet : Bool) : State :=
  (((s.goTo f .waiting).entryTest f quiet).tripTest f quiet).grant

/-! ## Lanes and entry outcomes -/

/-- R135: an enabled lane is disabled and emptied; last consumed time and chase glide are kept. The LANE notice is
raised where the cause names a reason (Table 8-4). -/
def State.disableLane (s : State) (f : FaderIx) (reason : Option LaneReason) : State :=
  if (s.fader f).lane.enabled then
    let s := s.modLane f fun l =>
      { l with enabled := false, queue := [], current := none, value := none, segment := none, starved := false }
    match reason with
    | some r => s.raise (.lane f r s.timeline.count)
    | none => s
  else s

/-- R109: an outcome is written against the open entry of the RUNNING recall that the reference names; a report that
matches no open entry is passed over. -/
def State.writeOutcome (s : State) (tag index : Nat) (o : Outcome) : State :=
  match s.recalls with
  | [] => s
  | r :: rest =>
    match r.run with
    | none => s
    | some run =>
      if r.tag = tag ∧ run.outcomes[index]? = some none then
        { s with recalls := { r with run := some { run with outcomes := run.outcomes.set index (some o) } } :: rest }
      else s

end Sys2Proof.Machine
end

