-- ==== Sys2Proof/Machine/Link.lean ====
section
/-! DEFINITION. How the Link Port takes a request (R156 to R160): contact with the host, the owner's answer, the reply
that waits to be sent, and the bytes a reply frame puts on the line. -/

namespace Sys2Proof.Machine

/-- What a command answers. -/
abbrev Result := Host.Outcome State Fault Refusal

/-- What a request leaves: the state, the reply status and the data (R158). -/
structure Taken where
  st : State
  status : Status
  data : ReplyData

/-- Taken, answered OK with data. -/
def taken (data : ReplyData) (s : State) : Taken := ⟨s, .ok, data⟩

/-- Taken, answered ACCEPTED. -/
def accepted (data : ReplyData) (s : State) : Taken := ⟨s, .accepted, data⟩

/-- R158: a refusal is a reply status and changes nothing. -/
def refuse (status : Status) (s : State) : Taken := ⟨s, status, .none⟩

/-! ## Check value (R156) -/

/-- One bit of the register taken through the generator x^16 + x^12 + x^5 + 1. -/
def crcShift (c : BitVec 16) : BitVec 16 := if c.msb then (c <<< 1) ^^^ 0x1021#16 else c <<< 1

/-- One byte, most significant bit first. -/
def crcByte (c : BitVec 16) (b : Byte) : BitVec 16 :=
  crcShift (crcShift (crcShift (crcShift (crcShift (crcShift (crcShift (crcShift (c ^^^ (b.setWidth 16 <<< 8)))))))))

/-- The check value of a string of bytes: initial value all ones, no final inversion. -/
def crc (bytes : List Byte) : BitVec 16 := bytes.foldl crcByte 0xFFFF#16

/-- The check value as it is sent, high byte first. -/
def checkBytes (c : BitVec 16) : List Byte := [(c >>> 8).setWidth 8, c.setWidth 8]

/-! ## Contact (R159, R160) -/

/-- The part reads frames: it is READY and its receiver neither sends a reply nor waits for the opening idle
(R155, R158). -/
def State.hears (s : State) : Bool :=
  decide (s.part = .ready) && (decide (s.link.receiver = .ready) || decide (s.link.receiver = .inFrame))

/-- R159, R160: a valid frame that counts for supervision: the timer restarts, and while LINK-LOST contact is restored
with a LINK notice before the request is dispatched. -/
def State.contact (s : State) : State :=
  let lost := s.link.lost
  let s := { s with link := { s.link with supStart := s.now, lost := false } }
  if lost then s.raise (.link .restored true) else s

/-- The supervision timer (Table 10-2). R159 says that it does not run while supervision is off or the link is lost; that
it then reads 0, and not the link timeout at which it expired, is the model's choice, as is that it reads 0 until READY,
where it starts (log entry 23). -/
def State.supervisionTimer (s : State) : Time :=
  if s.part ≠ .ready ∨ s.settings.linkTimeout = 0 ∨ s.link.lost then 0
  else min (s.now - s.link.supStart) (ms s.settings.linkTimeout)

/-! ## Taking a request (R157, R158) -/

/-- The receiver returns to WAIT-IDLE with nothing gathered (R155). -/
def State.waitIdle (s : State) : State := { s with link := { s.link with receiver := .waitIdle, bytes := [] } }

/-- R158: the owner's answer waits as a reply, at the rate in force when the request was taken. -/
def State.answer (s : State) (kind : Nat) (rate : LinkRate) (status : Status) (data : ReplyData) : State :=
  { s with link := { s.link with
      receiver := .replying
      bytes := []
      reply := some ⟨s.link.address, kind, status, data, rate⟩ } }

/-- R157, R158, R160: a valid request frame of the kind `kind` is taken whole by its owner's action `act`. An addressed
one leaves a reply waiting; a broadcast one is taken where its kind is broadcast-capable and is never answered. -/
def State.takeValid (s : State) (kind : Nat) (capable : Bool) (d : Dest) (act : State → Taken) : State :=
  let s := s.contact
  match d with
  | .addressed =>
    let t := act s
    t.st.answer kind s.link.rate t.status t.data
  | .broadcast => (if capable then (act s).st else s).waitIdle

/-- A request row: the frame is taken where the part reads it, and not seen otherwise (log entries 11 and 16). -/
def takeRequest (kind : Nat) (capable : Bool) (d : Dest) (act : State → Taken) (s : State) : Result :=
  .next (if s.hears then s.takeValid kind capable d act else s)

/-! ## The reply on the line (R158, Table 10-5) -/

/-- The data bytes of a reply. -/
def ReplyData.wire : ReplyData → List Byte
  | .none => []
  | .bytes b => b
  | d => Config.replyBytes d

/-- The bytes of a reply frame before its check value. -/
def Reply.body (r : Reply) : List Byte :=
  byte1 (128 + r.address) ++ byte1 r.kind ++ byte1 (1 + r.data.wire.length) ++ byte1 r.status.code ++ r.data.wire

/-- The reply frame the part sends on TX. -/
def Reply.frame (r : Reply) : List Byte := r.body ++ checkBytes (crc r.body)

/-- A time given in whole milliseconds in a reply, at most 65,535 (R35, R117; log entry 7). -/
def wholeMs (t : Time) : Nat := min 65535 (t / 6 + if t % 6 ≠ 0 ∧ Config.countsBegun (t % 6) then 1 else 0)

end Sys2Proof.Machine
end

