-- ==== Sys2Proof/Machine/Fader.lean ====
section
/-! DEFINITION. Fader Control (Chapter 2) with what it does on behalf of its neighbours: ends of claims, the lead of a
group, arrivals, claims taken, target changes, touch, fault, drift, follow targets, trips and resumes. Each operation
takes one event at one fader record whole; outcomes of recall entries are written into the recall record, and the
completion test is left to the command (`State.settleRecalls`). -/

namespace Sys2Proof.Machine

/-! ## Ends of claims (R26) -/

/-- The end of the fader's claim reported with its outcome: a MOTION notice for DIRECT with any outcome and for FOLLOW
with ARRIVED or LINKLOST (R27), the entry's outcome for RECALL (R109). A LANE claim's end is the Lane Engine's
(`disableLane`). -/
def State.reportEnd (s : State) (f : FaderIx) (o : Outcome) : State :=
  match s.claimOf f with
  | .none => s
  | .direct => s.raise (.motion f .direct o (s.posOf f) false)
  | .recall tag index => s.writeOutcome tag index o
  | .lane _ => s
  | .follow _ =>
    if o = .arrived ∨ o = .linklost then s.raise (.motion f .follow o (s.posOf f) (s.clampedOf f)) else s

/-- The end of the claim with this outcome raises a MOTION notice (R27). -/
def Claim.endRaises (c : Claim) (o : Outcome) : Bool :=
  match c with
  | .direct => true
  | .follow _ => decide (o = .arrived ∨ o = .linklost)
  | _ => false

/-- R94: a master leads in TOUCHED, and with a DIRECT claim in WAITING, TRAVEL or SETTLE. -/
def State.meetsLead (s : State) (f : FaderIx) : Bool :=
  decide (s.stateOf f = .touched) || (decide (s.claimOf f = .direct) && (s.stateOf f).moving)

/-- R97: at the end of the lead of `g`, a PARKED member's FOLLOW claim ends ARRIVED with target and hold target at the
target; a member still moving or resting keeps its claim. -/
def State.memberLeadEnd (s : State) (g : GroupIx) (f : FaderIx) : State :=
  if s.claimOf f = .follow g ∧ s.stateOf f = .parked then
    (((s.reportEnd f .arrived).clearClaim f).modRecord f fun r => { r with hold := r.target }).claimEnded f (.follow g)
  else s

/-- R94: Fader Control reports a change of a fader's state or claim; where the fader is a master the leading item is
evaluated, and a lead that ends acts on the members. -/
def State.evalLead (s : State) (f : FaderIx) : State :=
  match s.masterOf f with
  | none => s
  | some g =>
    match s.group g with
    | none => s
    | some r =>
      let lead := s.meetsLead f
      let s := s.setGroup g (some { r with leading := lead })
      if r.leading && !lead then s.each (r.members.map (·.fader)) fun m s => s.memberLeadEnd g m else s

/-- R26, any end but arrival: the claim ends with its outcome, target and hold target become the position, a moving
fader parks and gives up its slot or queue place, and the Group Follower is told. The lead and the grant rule follow in
`endClaim`. A member whose claim ends so in the LINK-LOST teardown, and every member of a master whose RECALL or LANE
claim does, is retrimmed as at an end by any cause (R98), which is the model's choice against R99's "otherwise not
retaken" (log entry 39). -/
def State.dropClaim (s : State) (f : FaderIx) (o : Outcome) : State :=
  let old := s.claimOf f
  let s := ((s.reportEnd f o).clearClaim f).holdHere f
  let s := if (s.stateOf f).moving then (s.goTo f .parked).entryTest f (old.endRaises o) else s
  s.claimEnded f old

/-- `dropClaim` as one event: the lead is evaluated and the grant rule applied. -/
def State.endClaim (s : State) (f : FaderIx) (o : Outcome) : State := ((s.dropClaim f o).evalLead f).grant

/-! ## Arrival (R51, R52) -/

/-- The arrival of the fader's claim raises a MOTION notice (R27, R52). -/
def State.arrivalRaises (s : State) (f : FaderIx) : Bool :=
  match s.claimOf f with
  | .direct => true
  | .follow g => !(s.leading g)
  | _ => false

/-- R52: the claim held at arrival is resolved by kind; the planned arrival is cleared (R51). -/
def State.resolveArrival (s : State) (f : FaderIx) : State :=
  let s := s.modRecord f fun r => { r with planned := none }
  match s.claimOf f with
  | .none => s
  | .direct => ((s.reportEnd f .arrived).clearClaim f).claimEnded f .direct
  | .recall tag index =>
    let o := if s.now ≤ ((s.fader f).record.deadline.getD s.now) then Outcome.arrived else .late
    ((s.writeOutcome tag index o).clearClaim f).claimEnded f (.recall tag index)
  | .lane _ => s
  | .follow g => if s.leading g then s else ((s.reportEnd f .arrived).clearClaim f).claimEnded f (.follow g)

/-- R51: the fader parks with hold target equal to the target, its slot goes to the pool, and its claim is resolved. -/
def State.arrive (s : State) (f : FaderIx) : State :=
  let quiet := s.arrivalRaises f
  let s := (s.goTo f .parked).modRecord f fun r => { r with hold := r.target }
  (((s.resolveArrival f).entryTest f quiet).evalLead f).grant

/-! ## Claims taken and targets changed (R18 to R20) -/

/-- R19: a claim taken within the arrival window arrives at once, without admission. -/
def State.arriveAtOnce (s : State) (f : FaderIx) (t : Nat) (quiet : Bool) : State :=
  let enters := (s.stateOf f).moving
  let s := s.modRecord f fun r => { r with target := t, hold := t }
  let s := if enters then s.goTo f .parked else s
  let quiet := quiet || s.arrivalRaises f
  let s := s.resolveArrival f
  (if enters then s.entryTest f quiet else s).grant

/-- R19, R18, R45, R46: a claim taken that needs drive: PARKED goes to WAITING, WAITING keeps its place, TRAVEL and
SETTLE lay a new ramp from the setpoint, REST records the target. -/
def State.seek (s : State) (f : FaderIx) (t : Nat) (quiet : Bool) : State :=
  let s := s.modRecord f fun r => { r with target := t }
  match s.stateOf f with
  | .parked => s.enterWaiting f quiet
  | .travel => s.layRamp f (s.fader f).motion.setpoint
  | .settle => (s.goTo f .travel).layRamp f (s.fader f).motion.setpoint
  | _ => s

/-- A claim is taken in PARKED, WAITING, TRAVEL, SETTLE or REST (R19), replacing the one held as Table 2-4 says: a
DIRECT claim and a RECALL entry end SUPERSEDED, a LANE claim ends with its lane disabled for reason RECALL, a FOLLOW
claim ends without notice. The arriving target stands in both target and hold target of a claim so ended (R26,
R54). A FOLLOW claim replaced by a RECALL entry leaves its retrim to the entry's end (R98). R94 evaluates a lead at a report
of a change and names, among the ends of a lead, the end of the master's DIRECT claim by a replacing claim; that a leading
master whose DIRECT claim a MOVE or NULL replaces by one that needs drive keeps its lead without a break, since the condition
is evaluated once, after the whole event, is the model's choice (DESIGN CHOICE, log entry 51). -/
def State.takeClaim (s : State) (f : FaderIx) (c : Claim) (t : Nat) (planned deadline expiry : Option Time) : State :=
  let old := s.claimOf f
  let s := if old.isLane then s.disableLane f (some .recall) else s.reportEnd f .superseded
  let s := if old = .none then s else s.modRecord f fun r => { r with target := t, hold := t }
  let s := s.modRecord f fun r => { r with claim := c, planned := planned, deadline := deadline, expiry := expiry }
  let quiet := decide (old = .direct)
  let s := if s.within f t then s.arriveAtOnce f t quiet else s.seek f t quiet
  let s := if old.isFollow && c.isRecall then s else s.claimEnded f old
  s.evalLead f

/-- R18: the target of a fader changes under the claim it holds. For a follow target within the arrival window R95 says that
it arrives at once, and for a member that holds FOLLOW and moves that it lays a new ramp (with R18 and R45); that the ramp is
laid in TRAVEL and SETTLE, within the window too, and the arrival comes through SETTLE, is the model's choice (DESIGN CHOICE,
log entry 52). -/
def State.retarget (s : State) (f : FaderIx) (t : Nat) : State :=
  if s.targetOf f = t then s
  else
    let s := s.modRecord f fun r => { r with target := t }
    match s.stateOf f with
    | .parked => if s.needsDrive f then s.enterWaiting f false else s.modRecord f fun r => { r with hold := t }
    | .waiting =>
      if s.needsDrive f then s
      else (((s.goTo f .parked).modRecord f fun r => { r with hold := t }).moveTest f).grant
    | .travel => s.relayRamp f
    | .settle => (s.goTo f .travel).layRamp f (s.fader f).motion.setpoint
    | _ => s

/-! ## Touch (R22 to R24) -/

/-- R22, R23: TOUCH-ON reaches the record. -/
def State.touchOnRecord (s : State) (f : FaderIx) : State :=
  match s.stateOf f with
  | .touched => s
  | .faulted => s
  | .calibrating _ =>
    let s := (((s.endCalibration f .touched none).goTo f .touched).clearClaim f).holdHere f
    ((s.moveTest f).evalLead f).grant
  | st =>
    let old := s.claimOf f
    let s := if old.isLane then
        s.modRecord f fun r => { r with claim := .lane true, planned := none, deadline := none, expiry := none }
      else (s.reportEnd f .overridden).clearClaim f
    let s := ((s.goTo f .touched).holdHere f).entryTest f (decide (old = .direct))
    let s := if st = .rest then s.raise (.rest f false .touch) else s
    let s := if old.isLane then s else s.claimEnded f old
    (s.evalLead f).grant

/-- R24, first part: the claim is settled at TOUCH-OFF. -/
def State.settleTouch (s : State) (f : FaderIx) : State :=
  let l := (s.fader f).lane
  match s.claimOf f with
  | .lane m =>
    match (s.config f).release with
    | .return =>
      match l.value with
      | some v => (s.holdHere f).modRecord f fun r =>
          { r with claim := .lane false, target := v, planned := some (s.now + ms l.chase) }
      | none => (s.holdHere f).modRecord f fun r => { r with claim := .lane false }
    | .stay => (((s.disableLane f (some .release)).clearClaim f).holdHere f).claimEnded f (.lane m)
  | _ => s.holdHere f

/-- R24: TOUCH-OFF reaches the record: the claim is settled, a member is retrimmed, and the fader leaves TOUCHED for
REST, WAITING or PARKED. -/
def State.touchOffRecord (s : State) (f : FaderIx) : State :=
  if s.stateOf f = .touched then
    let s := (s.settleTouch f).callRetrim f
    let s :=
      if s.settings.heatResume ≤ s.heatOf f then ((s.goTo f .rest).moveTest f).raise (.rest f true .release)
      else if s.needsDrive f then s.enterWaiting f false
      else (s.goTo f .parked).moveTest f
    (s.evalLead f).grant
  else s

/-! ## Faults and calibration ends (R36) -/

/-- R36: the latched set has become non-empty: the fader goes to FAULTED from any other state. -/
def State.faultRecord (s : State) (f : FaderIx) : State :=
  let old := s.claimOf f
  let st := s.stateOf f
  let s := if old.isLane then s.disableLane f (some .fault) else s.reportEnd f .faulted
  let s := (((s.endCalibration f .faulted none).goTo f .faulted).clearClaim f).holdHere f
  let s := s.entryTest f (decide (old = .direct))
  let s := if st = .rest then s.raise (.rest f false .fault) else s
  ((s.claimEnded f old).evalLead f).grant

/-- R36, R79: the latched set has been emptied: the fader leaves FAULTED for TOUCHED or PARKED. -/
def State.leaveFaulted (s : State) (f : FaderIx) : State :=
  if s.stateOf f = .faulted then
    let st := if (s.fader f).touch.on then FaderState.touched else .parked
    let s := (((s.goTo f st).clearClaim f).holdHere f).moveTest f
    (s.callRetrim f).evalLead f
  else s

/-- R36, R40: the fader parks at its position without a claim. -/
def State.parkHere (s : State) (f : FaderIx) : State :=
  (((s.goTo f .parked).clearClaim f).holdHere f).moveTest f

/-- R36: a calibration has ended otherwise than by touch, fault or trip: the fader parks at its position. -/
def State.parkCalibrated (s : State) (f : FaderIx) : State := ((s.parkHere f).evalLead f).grant

/-! ## Position changes: drift and following (R28, R54, R55, R95) -/

/-- R54, R55: the drift test of a PARKED fader, and what drift does. -/
def State.driftTest (s : State) (f : FaderIx) : State :=
  if s.stateOf f = .parked ∧ (s.fader f).fault.current.track = false
      ∧ (s.config f).holdWindow < dist (s.posOf f) (s.holdOf f) then
    (s.modRecord f fun r => { r with target := r.hold, planned := none }).enterWaiting f false
  else s

/-- The master's position plus the offset (R95). -/
def followSum (masterPos : Nat) (offset : Int) : Int := (masterPos : Int) + offset

/-- The follow target, clamped into 0-1023 (R95). -/
def followTarget (masterPos : Nat) (offset : Int) : Nat := (min 1023 (max 0 (followSum masterPos offset))).toNat

/-- The follow target was clamped (R95). -/
def followClamped (masterPos : Nat) (offset : Int) : Bool :=
  decide (followSum masterPos offset < 0 ∨ 1023 < followSum masterPos offset)

/-- R95: one member is handed its follow target; one in TOUCHED, FAULTED or CALIBRATING, or holding a DIRECT, RECALL or
LANE claim, is skipped. -/
def State.handFollow (s : State) (g : GroupIx) (masterPos : Nat) (f : FaderIx) : State :=
  match s.memberOf f with
  | none => s
  | some (_, _, m) =>
    let t := followTarget masterPos m.offset
    if (s.stateOf f).takesClaims then
      match s.claimOf f with
      | .none =>
        (s.modMember f fun m' => { m' with clamped := followClamped masterPos m.offset }).takeClaim f (.follow g) t
          none none none
      | .follow _ => (s.modMember f fun m' => { m' with clamped := followClamped masterPos m.offset }).retarget f t
      | _ => s
    else s

/-- R95: a position change of a master whose group is leading hands each member its follow target, in list order, while
the Link Port is IN-CONTACT. -/
def State.followMaster (s : State) (f : FaderIx) : State :=
  match s.masterOf f with
  | none => s
  | some g =>
    if s.leading g && !s.link.lost then
      s.each (s.followersOf f) fun m s => s.handFollow g (s.posOf f) m
    else s

/-- R4: a position change reaches Fader Control: target and hold target follow it in FAULTED (R36), the MOVE test (R28)
and the drift test (R54) are made, and the Group Follower is told. -/
def State.positionChange (s : State) (f : FaderIx) : State :=
  let s := if s.stateOf f = .faulted then s.holdHere f else s
  ((s.moveTest f).driftTest f).followMaster f

/-! ## Trips and resumes (R65, R66) as events of their own -/

/-- R65: a trip found at a window end or a HEAT-SET. -/
def State.tripEvent (s : State) (f : FaderIx) : State := (((s.tripTest f false).evalLead f).grant)

/-- R66, R37: a resume: to WAITING when the fader needs drive, else to PARKED, where a claim within its window arrives
at once; then the REST notice. -/
def State.resume (s : State) (f : FaderIx) : State :=
  let s :=
    if s.needsDrive f then s.enterWaiting f false
    else
      let quiet := s.arrivalRaises f
      let s := (s.goTo f .parked).modRecord f fun r => { r with hold := r.target }
      (s.resolveArrival f).entryTest f quiet
  ((s.raise (.rest f false .cooled)).evalLead f).grant

/-- R66: the resume test finds a fader in REST with heat at or below the resume value. -/
def State.resumes (s : State) (f : FaderIx) : Bool :=
  decide (s.stateOf f = .rest) && decide (s.heatOf f ≤ s.settings.heatResume)

/-- R66: the resume test. -/
def State.resumeTest (s : State) (f : FaderIx) : State := if s.resumes f then s.resume f else s

end Sys2Proof.Machine
end

