-- ==== Sys2Proof/Machine/Recall.lean ====
section
/-! DEFINITION. The Recall Engine (Chapter 7): the start test, the start of a recall, completion, HALT's ends and the
teardown of the queue. -/

namespace Sys2Proof.Machine

/-- The page numbered `p`. -/
def State.page (s : State) (p : PageIx) : Page := s.pages[p.val]

/-- Why the start test is made (R106): a record has become head, the Timeline count has changed, a FIRE was taken. -/
inductive TestCause where
  | becameHead
  | countChange
  | fire
  deriving DecidableEq, Repr

/-- R106: the start test on the head of the queue. -/
def State.startFound (s : State) (cause : TestCause) : Bool :=
  match s.recalls with
  | [] => false
  | r :: _ =>
    r.run.isNone &&
      match r.condition with
      | .now => decide (cause = .becameHead)
      | .at c => decide (cause ≠ .fire) && decide (c ≤ s.timeline.count)
      | .fire => decide (cause = .fire)

/-- R108: one entry is handed to its fader: resolved at once in TOUCHED, FAULTED and CALIBRATING, otherwise taken as a
RECALL claim with its planned arrival, deadline and expiry. -/
def State.handEntry (s : State) (tag pageGlide : Nat) (run : RecallRun) (e : Entry) (index : Nat) : State :=
  match s.stateOf e.fader with
  | .touched => s.writeOutcome tag index .overridden
  | .faulted => s.writeOutcome tag index .faulted
  | .calibrating _ => s.writeOutcome tag index .skipped
  | _ =>
    let planned := run.start + ms (e.glide.getD pageGlide)
    let deadline := planned + ms run.lateness
    s.takeClaim e.fader (.recall tag index) e.target (some planned) (some deadline) (some (deadline + ms run.expiry))

/-- The entries of a page handed over in entry index order. -/
def handEntries (tag pageGlide : Nat) (run : RecallRun) : List (Entry × Nat) → State → State
  | [], s => s
  | (e, i) :: rest, s => handEntries tag pageGlide run rest (s.handEntry tag pageGlide run e i)

/-- R108: the head starts: RUNNING from now, with the lateness allowance and expiry in force as its own. -/
def State.startHead (s : State) : State :=
  match s.recalls with
  | [] => s
  | r :: rest =>
    let p := s.page r.page
    let run : RecallRun := ⟨s.now, s.settings.lateness, s.settings.recallExpiry, List.replicate p.entries.length none⟩
    handEntries r.tag p.glide run p.entries.zipIdx { s with recalls := { r with run := some run } :: rest }

/-- R106: the start test, and the start it finds. -/
def State.startTest (s : State) (cause : TestCause) : State := if s.startFound cause then s.startHead else s

/-- The outcome list of a RECALL-END notice, in entry index order (R113). -/
def outcomeItems (p : Page) (run : RecallRun) : List (FaderIx × Outcome) :=
  (p.entries.zip run.outcomes).filterMap fun (e, o) => o.map fun o => (e.fader, o)

/-- R112: the completion test on the head, and what completion does: RECALL-END, removal, and the start test on the
recall that becomes head, which may itself complete in the same event. The first argument bounds the completions by
the recalls queued. -/
def settleAlong : Nat → State → State
  | 0, s => s
  | n + 1, s =>
    match s.recalls with
    | [] => s
    | r :: rest =>
      match r.run with
      | none => s
      | some run =>
        if run.outcomes.all (·.isSome) then
          settleAlong n
            (({ s with recalls := rest }.raise
              (.recallEnd r.tag r.page false (outcomeItems (s.page r.page) run))).startTest .becameHead)
        else s

/-- R112: the completion test made at the end of an event that may have written an outcome. R112 places completion and the
next recall's start in the event that writes the outcome; that, where one command acts on several faders or more than once at
one, they come after all of it, and not right after the last outcome, is the model's choice (DESIGN CHOICE, log entry 48). -/
def State.settleRecalls (s : State) : State := settleAlong s.recalls.length s

/-- R115: an entry of the running recall still open at HALT, its fader holding the claim that names it (R109). -/
def State.entryOpen (s : State) (e : Entry) (index : Nat) : Bool :=
  match s.recalls with
  | [] => false
  | r :: _ =>
    match r.run with
    | none => false
    | some run => decide (run.outcomes[index]? = some none) && decide (s.claimOf e.fader = .recall r.tag index)

/-- R115: every open entry resolves HALTED at its fader record, in entry index order. -/
def haltEntries : List (Entry × Nat) → State → State
  | [], s => s
  | (e, i) :: rest, s => haltEntries rest (if s.entryOpen e i then s.endClaim e.fader .halted else s)

/-- R118: the queue is emptied head first: RECALL-END with the outcome list for a RUNNING recall, and with the
not-started mark and no items for a PENDING one; no start test is made. -/
def recallsTornDown : List Recall → State → State
  | [], s => { s with recalls := [] }
  | r :: rest, s =>
    recallsTornDown rest (s.raise (match r.run with
      | some run => .recallEnd r.tag r.page false (outcomeItems (s.page r.page) run)
      | none => .recallEnd r.tag r.page true []))

end Sys2Proof.Machine
end

