-- ==== Sys2Proof/Machine/Sensing.lean ====
section
/-! DEFINITION. The Track Sense Unit's mapping and the Touch Sense Unit (Chapter 1): class and position of a raw
reading, first samples, captures, debouncing and the end of a touch by the enable. -/

namespace Sys2Proof.Machine

/-! ## From raw reading to position (R2, R3, R4, R6) -/

/-- R2: the class of a reading against a calibration. -/
def classify (low high raw : Nat) : SampleClass :=
  if low ≤ raw + 200 ∧ raw ≤ high + 200 then .inWindow else .outOfWindow

/-- R3: the distance times 1023 over the span, rounded to the nearest step with halves toward the top, limited to
0-1023. -/
def mapRaw (low high raw : Nat) : Nat :=
  let span : Int := (high : Int) - low
  (min 1023 (max 0 ((2 * (((raw : Int) - low) * 1023) + span) / (2 * span)))).toNat

/-- R2 to R4: the track items after an ordinary sample. -/
def Track.sample (t : Track) (low high raw : Nat) : Track :=
  match classify low high raw with
  | .inWindow =>
    { t with raw := raw, cls := .inWindow, pos := mapRaw low high raw, lastValid := mapRaw low high raw, first := false }
  | .outOfWindow => { t with raw := raw, cls := .outOfWindow, pos := t.lastValid, first := false }

/-- R6: the position a first sample gives: mapped, or 0 below and 1023 above the window. -/
def firstPosition (low high raw : Nat) : Nat :=
  match classify low high raw with
  | .inWindow => mapRaw low high raw
  | .outOfWindow => if raw + 200 < low then 0 else 1023

/-- R6: the track items after a first sample. -/
def Track.firstSample (t : Track) (low high raw : Nat) : Track :=
  { t with
    raw := raw
    cls := classify low high raw
    pos := firstPosition low high raw
    lastValid := firstPosition low high raw
    first := false }

/-! ## Captures (R10 to R12) -/

/-- R11: a capture is appended, or the lost mark set where two are held. -/
def Touch.addCapture (t : Touch) (c : Capture) : Touch :=
  if t.captures.length < 2 then { t with captures := t.captures ++ [c] } else { t with lost := true }

/-- R10 to R12: a capture of the position and count in force, and its CAPTURE notice. -/
def State.capture (s : State) (f : FaderIx) (on : Bool) : State :=
  (s.modTouch f fun t => t.addCapture ⟨on, s.posOf f, s.timeline.count⟩).raise (.capture f)

/-! ## Debouncing (R7, R8) -/

/-- R8: the touch state has become ON: TOUCH-ON to Fader Control, then the capture (log entry 15). -/
def State.touchBecomesOn (s : State) (f : FaderIx) : State :=
  (((s.modTouch f fun t => { t with on := true, present := 0, absent := 0 }).touchOnRecord f).capture f true).settleRecalls

/-- R8, R9: the touch state has become OFF: TOUCH-OFF to Fader Control, then the capture. -/
def State.touchBecomesOff (s : State) (f : FaderIx) : State :=
  ((s.modTouch f fun t => { t with on := false, present := 0, absent := 0 }).touchOffRecord f).capture f false

/-- R7, Table 1-3: one touch sample of an enabled fader. -/
def State.debounce (s : State) (f : FaderIx) (present : Bool) : State :=
  let t := (s.fader f).touch
  match t.on, present with
  | false, true => if 6 ≤ t.present then s.touchBecomesOn f else s.modTouch f fun t => { t with present := t.present + 1 }
  | false, false => s.modTouch f fun t => { t with present := 0 }
  | true, true => s.modTouch f fun t => { t with absent := 0 }
  | true, false => if 50 ≤ t.absent then s.touchBecomesOff f else s.modTouch f fun t => { t with absent := t.absent + 1 }

/-- The time of a touch sample: 0.5 ms after the last one at the earliest (R7; log entry 3). -/
def State.touchTime (s : State) (f : FaderIx) : State :=
  let t := max s.now (s.fader f).touch.nextSample
  { s with now := t }.modTouch f fun x => { x with nextSample := t + 3 }

/-- R7, R9: a touch sample. -/
def State.touchSampleAt (s : State) (f : FaderIx) (present : Bool) : State :=
  let s := s.touchTime f
  if (s.config f).touchEnable then s.debounce f present else s

/-- R9: the enable is turned off: a touch in progress ends at once. -/
def State.disableTouch (s : State) (f : FaderIx) : State :=
  if (s.fader f).touch.on then s.touchBecomesOff f
  else s.modTouch f fun t => { t with present := 0, absent := 0 }

/-- TOUCH_SAMPLE (R7). -/
def execTouchSample (f : FaderIx) (present : Bool) (s : State) : Result :=
  .next (if s.part = .ready then s.touchSampleAt f present else s)

/-- TOUCH_ON (R22): the touch sample that completes a touch-on; it happens where the next present sample completes one
(log entry 12). -/
def execTouchOn (f : FaderIx) (s : State) : Result :=
  .next (if s.part = .ready ∧ (s.config f).touchEnable ∧ (s.fader f).touch.on = false ∧ 6 ≤ (s.fader f).touch.present
    then s.touchSampleAt f true else s)

/-- TOUCH_OFF (R24): the touch sample that completes a touch-off; it happens where the next absent sample completes one
(log entry 12). -/
def execTouchOff (f : FaderIx) (s : State) : Result :=
  .next (if s.part = .ready ∧ (s.config f).touchEnable ∧ (s.fader f).touch.on = true ∧ 50 ≤ (s.fader f).touch.absent
    then s.touchSampleAt f false else s)

end Sys2Proof.Machine
end

