-- ==== Sys2Proof/Machine/Calibration.lean ====
section
/-! DEFINITION. The Calibration Sequencer (R81 to R88): CALIBRATE, the stop tests and the timeouts of the two phases,
CAL-ACCEPT and CAL-REJECT. -/

namespace Sys2Proof.Machine

/-! ## CALIBRATE (R81) -/

/-- Table 5-3: why a fader refuses to be calibrated. -/
def State.calRefusal (s : State) (f : FaderIx) : Option Status :=
  match s.stateOf f with
  | .touched => some .touched
  | .faulted => some .faulted
  | .calibrating _ => some .calibrating
  | .rest => some .state
  | _ =>
    match s.claimOf f with
    | .recall _ _ => some .recallActive
    | .lane _ => some .laneActive
    | .follow _ => some .grouped
    | _ => none

/-- The first fader of a list that refuses, with its status. -/
def State.firstRefusal (s : State) (l : List FaderIx) : Option (FaderIx × Status) :=
  l.findSome? fun f => (s.calRefusal f).map fun st => (f, st)

/-- R81: one fader is taken: a DIRECT claim ends SUPERSEDED, the fader enters CAL-WAIT at the tail of the queue, and the
heat test and the grant rule follow. Its timed items are absent until the down phase begins (DESIGN CHOICE, log entry 50). -/
def State.calibrateOne (s : State) (f : FaderIx) : State :=
  let old := s.claimOf f
  let s := if old = .direct then (((s.reportEnd f .superseded).clearClaim f).holdHere f) else s
  let s := (s.goTo f (.calibrating .calWait)).setCal f (some ⟨none, none, none⟩)
  let s := (s.modRecord f fun r => { r with pendingCal := none }).claimEnded f old
  ((s.tripTest f (decide (old = .direct))).grant).evalLead f

/-- The owner's answer to CALIBRATE. -/
def calibrateAct (faders : BitVec 16) (s : State) : Taken :=
  if faders = 0#16 then refuse .range s
  else
    match s.firstRefusal (fadersOf faders) with
    | some (f, st) => ⟨s, st, .refusedAt f⟩
    | none => accepted .none (s.each (fadersOf faders) fun f s => s.calibrateOne f)

/-- CALIBRATE (R81). -/
def execCalibrate (d : Dest) (faders : BitVec 16) (s : State) : Result := takeRequest 9 false d (calibrateAct faders) s

/-! ## The phases (R82 to R84) -/

/-- R82: the stop test finds the fader stopped at a sample. -/
def State.calStopped (s : State) (f : FaderIx) : Bool :=
  match (s.fader f).cal.bind (·.timing) with
  | some t => decide (dist (s.fader f).track.raw t.stopReference < 8) && decide (t.stopStart + ms 80 ≤ s.now)
  | none => false

/-- R84: the sample lies more than 3000 ms after the phase start. -/
def State.calTimedOut (s : State) (f : FaderIx) : Bool :=
  match (s.fader f).cal.bind (·.timing) with
  | some t => decide (t.phaseStart + ms 3000 < s.now)
  | none => false

/-- R82: the timed items after a sample that finds no stop: the stop reference and the stop window start follow a knob
that has moved 8 counts. -/
def CalTiming.follow (t : CalTiming) (raw : Nat) (now : Time) : CalTiming :=
  if 8 ≤ dist raw t.stopReference then { t with stopReference := raw, stopStart := now } else t

/-- R82: the knob still moves. -/
def State.calMoves (s : State) (f : FaderIx) : State :=
  s.setCal f ((s.fader f).cal.map fun c =>
    { c with timing := c.timing.map fun t => t.follow (s.fader f).track.raw s.now })

/-- R82: the end of the down phase: the captured low is taken and the up phase begins, at +35 % in the same event
(5-10, worked sequence). -/
def State.calDownEnds (s : State) (f : FaderIx) : State :=
  let raw := (s.fader f).track.raw
  (s.enterCalPhase f .calUp).setCal f
    ((s.fader f).cal.map fun c => { c with low := some raw, timing := some ⟨s.now, raw, s.now⟩ })

/-- R83: the span. -/
def calSpan (low high : Nat) : Int := (high : Int) - low

/-- R83: the end of the up phase: review with a READY notice, its timed items absent (DESIGN CHOICE, log entry 50), or
BAD-SPAN and PARKED. -/
def State.calUpEnds (s : State) (f : FaderIx) : State :=
  let high := (s.fader f).track.raw
  let low := (((s.fader f).cal.bind (·.low)).getD 0)
  let s := s.setCal f ((s.fader f).cal.map fun c => { c with high := some high, timing := none })
  if 2400 ≤ calSpan low high then
    let s := (s.goTo f (.calibrating .calReview)).modRecord f fun r =>
      { r with pendingCal := some ⟨low, high, calSpan low high⟩ }
    (s.raise (.cal f .ready .calUp (some low) (some high) (some (calSpan low high)))).grant
  else (s.endCalibration f .badSpan (some (calSpan low high))).parkCalibrated f

/-- R84: a phase that has run out of time ends the calibration TIMEOUT. -/
def State.calTimeout (s : State) (f : FaderIx) : State := (s.endCalibration f .timeout none).parkCalibrated f

/-- R82 to R84: the Calibration Sequencer at a sample: the stop test first, then the time. -/
def State.calSample (s : State) (f : FaderIx) : State :=
  match s.stateOf f with
  | .calibrating .calDown =>
    if s.calStopped f then s.calDownEnds f else if s.calTimedOut f then s.calTimeout f else s.calMoves f
  | .calibrating .calUp =>
    if s.calStopped f then s.calUpEnds f else if s.calTimedOut f then s.calTimeout f else s.calMoves f
  | _ => s

/-! ## CAL-ACCEPT (R85) and CAL-REJECT (R86) -/

/-- R85: the result is accepted: the working calibration, and a hold target taken through it. -/
def State.acceptCalibration (s : State) (f : FaderIx) (c : CalResult) : State :=
  let s := (s.modConfig f fun x => { x with calLow := c.low, calHigh := c.high }).setCal f none
  let t := mapRaw c.low c.high (s.fader f).track.raw
  let s := ((s.goTo f .parked).clearClaim f).modRecord f fun r => { r with target := t, hold := t, pendingCal := none }
  ((s.moveTest f).evalLead f).grant

/-- R86: the result is discarded. -/
def State.rejectCalibration (s : State) (f : FaderIx) : State :=
  (((s.setCal f none).modRecord f fun r => { r with pendingCal := none })).parkCalibrated f

/-- The calibration in force as reply data. -/
def State.calibrationData (s : State) (f : FaderIx) : ReplyData := .calibration (s.config f).calLow (s.config f).calHigh

/-- The answer to a fader that is not in CAL-REVIEW (R85, R86). -/
def State.noReview (s : State) (f : FaderIx) : Taken :=
  match s.stateOf f with
  | .calibrating _ => refuse .state s
  | .faulted => refuse .faulted s
  | _ => refuse .nothing s

/-- The owner's answer to CAL-ACCEPT. -/
def calAcceptAct (fader : Nat) (s : State) : Taken :=
  match faderOf fader with
  | none => refuse .range s
  | some f =>
    match s.stateOf f, (s.fader f).record.pendingCal with
    | .calibrating .calReview, some c =>
      if s.storing.isSome then refuse .storeBusy s
      else
        let s := s.acceptCalibration f c
        taken (s.calibrationData f) s
    | _, _ => s.noReview f

/-- CAL-ACCEPT (R85). -/
def execCalAccept (d : Dest) (fader : Nat) (s : State) : Result := takeRequest 10 false d (calAcceptAct fader) s

/-- The owner's answer to CAL-REJECT. -/
def calRejectAct (fader : Nat) (s : State) : Taken :=
  match faderOf fader with
  | none => refuse .range s
  | some f =>
    match s.stateOf f with
    | .calibrating .calReview =>
      let s := s.rejectCalibration f
      taken (s.calibrationData f) s
    | _ => s.noReview f

/-- CAL-REJECT (R86). -/
def execCalReject (d : Dest) (fader : Nat) (s : State) : Result := takeRequest 11 false d (calRejectAct fader) s

end Sys2Proof.Machine
end

