-- ==== Sys2Proof/Machine/Drive.lean ====
section
/-! DEFINITION. The Drive Pool (R58 to R70) beside the grant rule of Ops.lean: heat windows, BUDGET-SET, HEAT-SET and
DRIVE-READ. -/

namespace Sys2Proof.Machine

/-! ## Heat (R63, R64) -/

/-- R48, R64: a servo sample hands its drive level on: its magnitude is added to the window sum, a slot holder is marked,
and the level stands as that of the most recent sample. -/
def Heat.addSample (h : Heat) (drive : Int) (holds : Bool) : Heat :=
  ⟨h.heat, h.sum + drive.natAbs, h.held || holds, h.samples + 1, drive⟩

/-- R64: the heat after a window end. -/
def Heat.after (h : Heat) : Nat :=
  if h.held then min 4095 (h.heat + h.sum / 20 / 25) else h.heat - 1

/-- R64: the heat items after a window end. -/
def Heat.closeWindow (h : Heat) : Heat := ⟨h.after, 0, false, 0, h.lastDrive⟩

/-- R64 to R66: a window end: the heat changes, then the trip test and the resume test. -/
def State.windowEnd (s : State) (f : FaderIx) : State :=
  ((((s.modHeat f Heat.closeWindow).tripEvent f).resumeTest f).settleRecalls)

/-- HEAT_WINDOW_END (R64): a window spans twenty samples (R63); it ends once they have been taken. R63 gives windows of 10
ms back to back; that the end falls at the present time, the clock unmoved, so that a grant or a resume in the event takes
that time, is the model's choice (DESIGN CHOICE, log entry 34). -/
def execHeatWindowEnd (f : FaderIx) (s : State) : Result :=
  .next (if s.part = .ready ∧ 20 ≤ (s.fader f).heat.samples then s.windowEnd f else s)

/-! ## Requests (R62, R69, R70) -/

/-- The owner's answer to BUDGET-SET. -/
def budgetSetAct (budget : Nat) (s : State) : Taken :=
  if 1 ≤ budget ∧ budget ≤ 16 then taken .none (s.modSettings fun c => { c with budget := budget }).grant
  else refuse .range s

/-- BUDGET-SET (R62). -/
def execBudgetSet (d : Dest) (budget : Nat) (s : State) : Result := takeRequest 12 false d (budgetSetAct budget) s

/-- R65: the trip test would find a trip. -/
def State.tripFound (s : State) (f : FaderIx) : Bool :=
  (s.stateOf f).trips && decide (s.settings.heatTrip ≤ s.heatOf f)

/-- R69: every trip found against the new values is carried out, and every resume next, in fader order; a recall that one of
them completes does so after the last (DESIGN CHOICE, log entry 48). -/
def State.heatTests (s : State) : State :=
  let trips := allFaders.filter s.tripFound
  let resumes := allFaders.filter s.resumes
  (((s.each trips fun f s => s.tripEvent f).each resumes fun f s => s.resumeTest f)).settleRecalls

/-- The owner's answer to HEAT-SET. -/
def heatSetAct (trip resume : Nat) (s : State) : Taken :=
  if 500 ≤ trip ∧ trip ≤ 4095 ∧ resume + 100 ≤ trip then
    taken .none (s.modSettings fun c => { c with heatTrip := trip, heatResume := resume }).heatTests
  else refuse .range s

/-- HEAT-SET (R69). -/
def execHeatSet (d : Dest) (trip resume : Nat) (s : State) : Result := takeRequest 13 false d (heatSetAct trip resume) s

/-- The DRIVE-READ snapshot (R70), with the drive level of each fader's most recent servo sample. -/
def State.driveSnapshot (s : State) : DriveSnapshot :=
  { budget := s.settings.budget
    trip := s.settings.heatTrip
    resume := s.settings.heatResume
    holderCount := s.holders.length
    holders := s.holders
    queue := s.queue.map fun f => (f, decide (s.stateOf f ≠ .waiting))
    faders := allFaders.map fun f => (s.heatOf f, decide (s.stateOf f = .rest), (s.fader f).heat.lastDrive) }

/-- The owner's answer to DRIVE-READ. -/
def driveReadAct (s : State) : Taken := taken (.drive s.driveSnapshot) s

/-- DRIVE-READ (R70). -/
def execDriveRead (d : Dest) (s : State) : Result := takeRequest 14 false d driveReadAct s

end Sys2Proof.Machine
end

