-- ==== Sys2Proof/Machine/FaderRequests.lean ====
section
/-! DEFINITION. The requests of Fader Control: MOVE, NULL, STOP, TEACH, FADER-SET, FADER-READ (R30 to R35). -/

namespace Sys2Proof.Machine

/-! ## MOVE and NULL (R30, R31) -/

/-- Table 2-4, Table 2-5: a DIRECT claim arrives with its target and glide. -/
def takeDirect (f : FaderIx) (target glide : Nat) (s : State) : Taken :=
  match s.stateOf f with
  | .touched => refuse .touched s
  | .faulted => refuse .faulted s
  | .calibrating _ => refuse .calibrating s
  | _ =>
    if (s.claimOf f).isLane then refuse .laneActive s
    else accepted .none (s.takeClaim f .direct target (some (s.now + ms glide)) none none).settleRecalls

/-- The owner's answer to MOVE. -/
def moveAct (fader target glide : Nat) (s : State) : Taken :=
  match faderOf fader with
  | none => refuse .range s
  | some f => if target ≤ 1023 ∧ glide ≤ 10000 then takeDirect f target glide s else refuse .range s

/-- The owner's answer to NULL: a MOVE to the detent in force. -/
def nullAct (fader glide : Nat) (s : State) : Taken :=
  match faderOf fader with
  | none => refuse .range s
  | some f => if glide ≤ 10000 then takeDirect f (s.config f).detent glide s else refuse .range s

/-- MOVE (R30). -/
def execMove (d : Dest) (fader target glide : Nat) (s : State) : Result :=
  takeRequest 1 false d (moveAct fader target glide) s

/-- NULL (R31). -/
def execNull (d : Dest) (fader glide : Nat) (s : State) : Result :=
  takeRequest 3 false d (nullAct fader glide) s

/-! ## STOP (R32) and TEACH (R33) -/

/-- The owner's answer to STOP, by the claim held. -/
def stopAct (fader : Nat) (s : State) : Taken :=
  match faderOf fader with
  | none => refuse .range s
  | some f =>
    match s.claimOf f with
    | .none => taken .none s
    | .lane _ => refuse .laneActive s
    | .follow _ => refuse .grouped s
    | _ => taken .none (s.endClaim f .halted).settleRecalls

/-- STOP (R32). -/
def execStop (d : Dest) (fader : Nat) (s : State) : Result := takeRequest 2 false d (stopAct fader) s

/-- The owner's answer to TEACH. -/
def teachAct (fader : Nat) (s : State) : Taken :=
  match faderOf fader with
  | none => refuse .range s
  | some f =>
    if (s.fader f).fault.current.track then refuse .state s
    else taken (.detent (s.posOf f)) (s.modConfig f fun c => { c with detent := s.posOf f })

/-- TEACH (R33). -/
def execTeach (d : Dest) (fader : Nat) (s : State) : Result := takeRequest 4 false d (teachAct fader) s

/-! ## FADER-SET (R34) -/

/-- Every present value is in range. -/
def FaderSetOperand.ok (o : FaderSetOperand) : Bool :=
  okWhen o.release (fun n => (releaseOf n).isSome) && okWhen o.touchEnable (fun n => (flagOf n).isSome)
    && okWhen o.arrivalWindow (fun n => decide (1 ≤ n ∧ n ≤ 8)) && okWhen o.holdWindow (fun n => decide (3 ≤ n ∧ n ≤ 32))
    && okWhen o.speedLimit (fun n => decide (1 ≤ n ∧ n ≤ 8)) && okWhen o.reportStep (fun n => decide (1 ≤ n ∧ n ≤ 16))
    && okWhen o.detent (fun n => decide (n ≤ 1023))

/-- Every present setting written, absent ones kept. -/
def FaderSettings.write (c : FaderSettings) (o : FaderSetOperand) : FaderSettings :=
  { c with
    release := (o.release.bind releaseOf).getD c.release
    touchEnable := (o.touchEnable.bind flagOf).getD c.touchEnable
    arrivalWindow := o.arrivalWindow.getD c.arrivalWindow
    holdWindow := o.holdWindow.getD c.holdWindow
    speedLimit := o.speedLimit.getD c.speedLimit
    reportStep := o.reportStep.getD c.reportStep
    detent := o.detent.getD c.detent }

/-- R9, R34: what a change of the touch sensing enable and of the report step does at once; `old` holds the settings
before the request. -/
def State.faderSetEffects (old : FaderIx → FaderSettings) (f : FaderIx) (s : State) : State :=
  let s := if (old f).touchEnable ≠ (s.config f).touchEnable then s.disableTouch f else s
  if (old f).reportStep ≠ (s.config f).reportStep then s.moveTest f else s

/-- The owner's answer to FADER-SET: all faders written, then the effects in fader order (log entry 24). -/
def faderSetAct (faders : BitVec 16) (o : FaderSetOperand) (s : State) : Taken :=
  if faders = 0#16 ∨ FaderSetOperand.ok o = false then refuse .range s
  else
    taken .none (((s.each (fadersOf faders) fun f s => s.modConfig f fun c => c.write o).each (fadersOf faders)
      (State.faderSetEffects s.config)))

/-- FADER-SET (R34). -/
def execFaderSet (d : Dest) (faders : BitVec 16) (o : FaderSetOperand) (s : State) : Result :=
  takeRequest 5 false d (faderSetAct faders o) s

/-! ## FADER-READ (R35) -/

/-- The time remaining to a time, 0 when it is past. -/
def State.remaining (s : State) (t : Option Time) : Option Nat := t.map fun t => wholeMs (t - s.now)

/-- The snapshot of a fader record. -/
def State.faderSnapshot (s : State) (f : FaderIx) : FaderSnapshot :=
  let x := s.fader f
  { state := x.record.state
    claim := x.record.claim
    target := x.record.target
    hold := x.record.hold
    pos := x.track.pos
    lastValid := x.track.lastValid
    lastReported := x.record.lastReported
    raw := x.track.raw
    cls := x.track.cls
    toPlanned := s.remaining x.record.planned
    toDeadline := s.remaining x.record.deadline
    toExpiry := s.remaining x.record.expiry
    touch := x.touch.on
    settings := s.config f
    pendingCal := x.record.pendingCal
    latched := x.fault.latched
    current := x.fault.current
    role := s.roleOf f }

/-- The owner's answer to FADER-READ. -/
def faderReadAct (fader : Nat) (s : State) : Taken :=
  match faderOf fader with
  | none => refuse .range s
  | some f => taken (.fader (s.faderSnapshot f)) s

/-- FADER-READ (R35). -/
def execFaderRead (d : Dest) (fader : Nat) (s : State) : Result := takeRequest 6 false d (faderReadAct fader) s

end Sys2Proof.Machine
end

