-- ==== Sys2Proof/Machine/Faults.lean ====
section
/-! DEFINITION. The Fault Monitor (R72 to R79): the three condition tests at a servo sample, latching, WATCH-SET and
FAULT-CLEAR. -/

namespace Sys2Proof.Machine

/-! ## Latching (R75, R77) -/

/-- R75: a current, watched condition is added to the latched set: most recent latch, FAULT notice, and the fader goes
to FAULTED when the set was empty. One already latched is not added again. -/
def State.latch (s : State) (f : FaderIx) (c : Cond) : State :=
  let x := (s.fader f).fault
  if x.latched.has c then s
  else
    let s := (s.modFault f fun x => { x with latched := x.latched.add c, lastLatch := some c }).raise (.fault f c)
    if x.latched.isEmpty then s.faultRecord f else s

/-- The condition is latched where it is current and watched. -/
def State.latchIfWatched (s : State) (f : FaderIx) (c : Cond) : State :=
  if (s.fader f).fault.current.has c && (s.config f).watch.has c then s.latch f c else s

/-- The three conditions, in the order of Table 10-7. -/
def allConds : List Cond := [.stall, .track, .overcurrent]

/-! ## The tests at a sample (R72 to R74) -/

/-- R72: the STALL run and whether STALL is current after a sample. -/
def stallTest (now : Time) (qualifies : Bool) (pos : Nat) (run : Option (Time × Nat)) : Option (Time × Nat) × Bool :=
  if qualifies then
    match run with
    | none => (some (now, pos), false)
    | some (t, ref) => if 4 ≤ dist pos ref then (some (now, pos), false) else (run, decide (t + ms 120 ≤ now))
  else (none, false)

/-- R73, R74: a timed run of samples that meet a test, and whether it has lasted long enough. -/
def runTest (now : Time) (meets : Bool) (long : Time) (run : Option Time) : Option Time × Bool :=
  if meets then
    match run with
    | none => (some now, false)
    | some t => (run, decide (t + long ≤ now))
  else (none, false)

/-- R72: the sample qualifies for STALL. -/
def Fader.stallQualifies (x : Fader) : Bool :=
  (decide (x.record.state = .travel) || decide (x.record.state = .settle)) && decide (40 ≤ x.motion.drive.natAbs)
    && decide (x.track.cls = .inWindow)

/-- R72: the STALL test at a sample. -/
def State.stallSample (s : State) (f : FaderIx) : State :=
  let x := s.fader f
  let r := stallTest s.now x.stallQualifies x.track.pos x.fault.stallRun
  (s.modFault f fun y => { y with stallRun := r.1, current := { y.current with stall := r.2 } }).latchIfWatched f .stall

/-- R73: the TRACK test at a sample; `finding` says that the sample fell in CAL-DOWN or CAL-UP, where none is made. -/
def State.trackSample (s : State) (f : FaderIx) (finding : Bool) : State :=
  if finding then s
  else
    let x := s.fader f
    let r := runTest s.now (decide (x.track.cls = .outOfWindow)) (ms 20) x.fault.trackRun
    (s.modFault f fun y => { y with trackRun := r.1, current := { y.current with track := r.2 } }).latchIfWatched f .track

/-- R74: the OVERCURRENT test at a sample. -/
def State.overcurrentSample (s : State) (f : FaderIx) (active : Bool) : State :=
  let r := runTest s.now active (ms 1) (s.fader f).fault.overcurrentRun
  (s.modFault f fun y =>
    { y with overcurrentRun := r.1, current := { y.current with overcurrent := r.2 } }).latchIfWatched f .overcurrent

/-- R72 to R75: the Fault Monitor at a sample. -/
def State.monitor (s : State) (f : FaderIx) (active finding : Bool) : State :=
  ((s.stallSample f).trackSample f finding).overcurrentSample f active

/-! ## WATCH-SET (R78) and FAULT-CLEAR (R79) -/

/-- A watched condition that is current latches. -/
def State.latchWatched (s : State) (f : FaderIx) : State := allConds.foldl (fun s c => s.latchIfWatched f c) s

/-- The owner's answer to WATCH-SET. A recall that a latch completes does so after the last fader of the set (DESIGN CHOICE,
log entry 48). -/
def watchSetAct (faders : BitVec 16) (watch : Nat) (s : State) : Taken :=
  if faders = 0#16 then refuse .range s
  else
    taken .none (((s.each (fadersOf faders) fun f s => s.modConfig f fun c => { c with watch := condSetOf watch }).each
      (fadersOf faders) fun f s => s.latchWatched f).settleRecalls)

/-- WATCH-SET (R78). -/
def execWatchSet (d : Dest) (faders : BitVec 16) (watch : Nat) (s : State) : Result :=
  takeRequest 7 false d (watchSetAct faders watch) s

/-- R79: the latched conditions of the set that are not current are removed; an emptied set lets the fader leave
FAULTED, and the most recent latch goes where no FAULT notice is pending. -/
def State.clearFaults (s : State) (f : FaderIx) (conditions : CondSet) : State :=
  let s := s.modFault f fun x => { x with latched := x.latched.clear conditions x.current }
  if (s.fader f).fault.latched.isEmpty then
    let s := if s.isPending (.fader f .fault) then s else s.modFault f fun x => { x with lastLatch := none }
    s.leaveFaulted f
  else s

/-- The owner's answer to FAULT-CLEAR. An empty set of conditions for a fader with nothing latched meets RANGE and NOTHING,
between which R79 gives no order; that it is refused RANGE is the model's choice (DESIGN CHOICE, log entry 45). -/
def faultClearAct (fader conditions : Nat) (s : State) : Taken :=
  match faderOf fader with
  | none => refuse .range s
  | some f =>
    if (condSetOf conditions).isEmpty then refuse .range s
    else if (s.fader f).fault.latched.isEmpty then refuse .nothing s
    else
      let s := s.clearFaults f (condSetOf conditions)
      taken (.conditions (s.fader f).fault.latched (s.fader f).fault.current) s

/-- FAULT-CLEAR (R79). -/
def execFaultClear (d : Dest) (fader conditions : Nat) (s : State) : Result :=
  takeRequest 8 false d (faultClearAct fader conditions) s

end Sys2Proof.Machine
end

