-- ==== Sys2Proof/Machine/Groups.lean ====
section
/-! DEFINITION. The requests of the Group Follower: GROUP-FORM, GROUP-DISSOLVE, GROUP-READ (R91 to R93). -/

namespace Sys2Proof.Machine

/-- The fader holds a group role (R90). -/
def State.grouped (s : State) (f : FaderIx) : Bool := decide (s.roleOf f ≠ .none)

/-- R91: the members of a new group, in fader order, with their offsets. -/
def State.newMembers (s : State) (master : FaderIx) (members : BitVec 16) : List Member :=
  (fadersOf members).map fun f => ⟨f, (s.posOf f : Int) - (s.posOf master : Int), false, false⟩

/-- The owner's answer to GROUP-FORM. -/
def groupFormAct (group master : Nat) (members : BitVec 16) (s : State) : Taken :=
  match groupOf group, faderOf master with
  | some g, some m =>
    if members = 0#16 ∨ members.getLsbD m.val then refuse .range s
    else if (s.group g).isSome || s.grouped m || (fadersOf members).any s.grouped then refuse .grouped s
    else
      let l := s.newMembers m members
      taken (.offsets (l.map fun x => (x.fader, x.offset))) (s.setGroup g (some ⟨m, l, s.meetsLead m⟩))
  | _, _ => refuse .range s

/-- GROUP-FORM (R91). -/
def execGroupForm (d : Dest) (group master : Nat) (members : BitVec 16) (s : State) : Result :=
  takeRequest 15 false d (groupFormAct group master members) s

/-- R92: a member's FOLLOW claim for the group ends where it stands, without outcome or notice. -/
def State.releaseMember (g : GroupIx) (f : FaderIx) (s : State) : State :=
  if s.claimOf f = .follow g then
    let s := (s.clearClaim f).holdHere f
    (if (s.stateOf f).moving then (s.goTo f .parked).entryTest f false else s).grant
  else s

/-- The owner's answer to GROUP-DISSOLVE. -/
def groupDissolveAct (group : Nat) (s : State) : Taken :=
  match groupOf group with
  | none => refuse .range s
  | some g =>
    match s.group g with
    | none => refuse .nothing s
    | some r => taken .none ((s.each (r.members.map (·.fader)) (State.releaseMember g)).setGroup g none)

/-- GROUP-DISSOLVE (R92). -/
def execGroupDissolve (d : Dest) (group : Nat) (s : State) : Result :=
  takeRequest 16 false d (groupDissolveAct group) s

/-- The GROUP-READ snapshot: `none` for a group not in use. -/
def State.groupSnapshot (s : State) (g : GroupIx) : Option GroupSnapshot :=
  (s.group g).map fun r =>
    { master := r.master
      leading := r.leading
      suspended := s.link.lost
      members := r.members.map fun m => ⟨m.fader, m.offset, m.clamped, m.deferred, decide (s.claimOf m.fader = .follow g)⟩ }

/-- The owner's answer to GROUP-READ. -/
def groupReadAct (group : Nat) (s : State) : Taken :=
  match groupOf group with
  | none => refuse .range s
  | some g => taken (.group (s.groupSnapshot g)) s

/-- GROUP-READ (R93). -/
def execGroupRead (d : Dest) (group : Nat) (s : State) : Result := takeRequest 17 false d (groupReadAct group) s

end Sys2Proof.Machine
end

