-- ==== Sys2Proof/Machine/Meters.lean ====
section
/-! DEFINITION. The meter side (Chapter 9): inputs, the display frame's ballistics and image, pairs, scale tables, the
Level Stream Receiver, the Display Scanner, and their requests. -/

namespace Sys2Proof.Machine

/-! ## Meters and pairs -/

/-- The record of meter `m`. -/
def State.meter (s : State) (m : MeterIx) : Meter := s.meters[m.val]

/-- The record of meter `m` changed by `g`. -/
def State.modMeter (s : State) (m : MeterIx) (g : Meter → Meter) : State :=
  { s with meters := s.meters.set m.val (g (s.meter m)) }

/-- The working settings of meter `m`. -/
def State.meterConfig (s : State) (m : MeterIx) : MeterSettings := s.settings.meters[m.val]

/-- The working settings of meter `m` changed by `g`. -/
def State.modMeterConfig (s : State) (m : MeterIx) (g : MeterSettings → MeterSettings) : State :=
  s.modSettings fun c => { c with meters := c.meters.set m.val (g c.meters[m.val]) }

/-- The pair of a meter: pair Pk joins M2k and M2k+1. -/
def pairOf (m : MeterIx) : PairIx := ⟨m.val / 2, by omega⟩

/-- M2k, whose hold time and overload hold govern pair Pk (R139). -/
def lower (m : MeterIx) : MeterIx := ⟨m.val / 2 * 2, by omega⟩

/-- M2k+1. -/
def upper (m : MeterIx) : MeterIx := ⟨m.val / 2 * 2 + 1, by omega⟩

/-- The pair of the meter is LINKED. -/
def State.linked (s : State) (m : MeterIx) : Bool := s.settings.pairs[(pairOf m).val]

/-- The meters one after another. -/
def State.eachMeter (s : State) (l : List MeterIx) (g : MeterIx → State → State) : State := l.foldl (fun s m => g m s) s

/-! ## Input (R141, R142) -/

/-- R141: an input: the louder level and any clip. -/
def Meter.input (x : Meter) (level : Nat) (clip : Bool) : Meter :=
  { x with acc := min x.acc level, clip := x.clip || clip }

/-- An entry of a LEVELS list in range: meter, level, clip. -/
def levelOf (e : LevelOperand) : Option (MeterIx × Nat × Bool) :=
  match meterOf e.meter, flagOf e.clip with
  | some m, some c => if e.level ≤ 255 then some (m, e.level, c) else none
  | _, _ => none

/-- Every entry in range, or nothing. -/
def levelsOf : List LevelOperand → Option (List (MeterIx × Nat × Bool))
  | [] => some []
  | e :: rest =>
    match levelOf e, levelsOf rest with
    | some x, some l => some (x :: l)
    | _, _ => none

/-- R142: one entry: an input where the meter's source is LINK, passed over otherwise. -/
def State.levelInput (s : State) (e : MeterIx × Nat × Bool) : State :=
  if (s.meterConfig e.1).source = .link then s.modMeter e.1 fun x => x.input e.2.1 e.2.2 else s

/-- The owner's answer to LEVELS. -/
def levelsAct (list : List LevelOperand) (s : State) : Taken :=
  match levelsOf list with
  | some l =>
    if l = [] ∨ 32 < l.length then refuse .range s
    else taken (.taken (l.countP fun e => decide ((s.meterConfig e.1).source = .link))) (l.foldl State.levelInput s)
  | none => refuse .range s

/-- LEVELS (R142). -/
def execLevels (d : Dest) (list : List LevelOperand) (s : State) : Result := takeRequest 35 false d (levelsAct list) s

/-! ## METER-SET (R140) -/

/-- A timed setting as it is sent: all ones is INFINITE or LATCHED. -/
def endlessOf (n : Nat) : Option Nat := if n = 65535 then none else some n

/-- Every present value is in range. -/
def MeterSetOperand.ok (o : MeterSetOperand) : Bool :=
  okWhen o.mode (fun n => (modeOf n).isSome) && okWhen o.source (fun n => (meterSourceOf n).isSome)
    && okWhen o.scaleTable (fun n => (tableOf n).isSome) && okWhen o.fallInterval (fun n => decide (1 ≤ n ∧ n ≤ 64))
    && okWhen o.holdTime (fun n => decide (n = 65535 ∨ n ≤ 10000 ∧ n % 50 = 0))
    && okWhen o.overloadHold (fun n => decide (n = 65535 ∨ n ≤ 10000 ∧ n % 5 = 0))
    && okWhen o.threshold (fun n => decide (n ≤ 255)) && okWhen o.pairLink (fun n => (flagOf n).isSome)

/-- R140: the fall interval a mode brings where the request carries none. -/
def fallFor (mode : Option MeterMode) (old : Nat) : Nat :=
  match mode with
  | some .peak => 4
  | some .programme => 5
  | _ => old

/-- Every present setting written, absent ones kept. -/
def MeterSettings.write (c : MeterSettings) (o : MeterSetOperand) : MeterSettings :=
  { mode := (o.mode.bind modeOf).getD c.mode
    source := (o.source.bind meterSourceOf).getD c.source
    table := (o.scaleTable.bind tableOf).getD c.table
    fallInterval := o.fallInterval.getD (fallFor (o.mode.bind modeOf) c.fallInterval)
    holdTime := match o.holdTime with
      | some n => endlessOf n
      | none => c.holdTime
    overloadHold := match o.overloadHold with
      | some n => endlessOf n
      | none => c.overloadHold
    threshold := o.threshold.getD c.threshold }

/-- R140: a latch ended while the lamp is lit: its timer restarts, for a linked pair where the meter governs it
(log entry 25). -/
def State.restartLamp (s : State) (m : MeterIx) : State :=
  if s.linked m then
    if m = lower m then
      (s.modMeter (lower m) fun x => if x.lamp then { x with lampElapsed := 0 } else x).modMeter (upper m) fun x =>
        if x.lamp then { x with lampElapsed := 0 } else x
    else s
  else s.modMeter m fun x => if x.lamp then { x with lampElapsed := 0 } else x

/-- The link of a meter's pair written. -/
def State.setLink (s : State) (m : MeterIx) (b : Bool) : State :=
  s.modSettings fun c => { c with pairs := c.pairs.set (pairOf m).val b }

/-- The hold and lamp items of one meter replaced by shared ones. -/
def Meter.share (x : Meter) (hold : Nat) (lamp : Bool) : Meter :=
  { x with hold := hold, holdState := .holding, holdElapsed := 0, lamp := lamp, lampElapsed := 0 }

/-- R140: the pair becomes LINKED with the louder hold and either lamp; one already LINKED is unchanged. -/
def State.linkPair (s : State) (m : MeterIx) : State :=
  if s.linked m then s
  else
    let a := s.meter (lower m)
    let b := s.meter (upper m)
    let g := fun x : Meter => x.share (min a.hold b.hold) (a.lamp || b.lamp)
    ((s.setLink m true).modMeter (lower m) g).modMeter (upper m) g

/-- R140: what METER-SET does to one meter of its set: its settings, then a latch ended, by the link as it stood before,
then the pair link; the meters of a set follow one another in meter order. So a METER-SET that ends LATCHED and unlinks
restarts the lamp timer of M2k+1 where M2k is named with it, and not where M2k+1 is named alone: the model's choice (log
entry 25). -/
def State.meterSet (o : MeterSetOperand) (m : MeterIx) (s : State) : State :=
  let old := s.meterConfig m
  let s := s.modMeterConfig m fun c => c.write o
  let s := if o.mode.isSome then s.modMeter m fun x => { x with fall := 0 } else s
  let s := if old.overloadHold.isNone && (s.meterConfig m).overloadHold.isSome then s.restartLamp m else s
  match o.pairLink.bind flagOf with
  | some true => s.linkPair m
  | some false => s.setLink m false
  | none => s

/-- One meter as METER-SET reports it. -/
def State.meterSnapshot (s : State) (m : MeterIx) : MeterSnapshot := ⟨s.meterConfig m, s.linked m, (s.meter m).shown⟩

/-- The owner's answer to METER-SET. -/
def meterSetAct (meters : BitVec 32) (o : MeterSetOperand) (s : State) : Taken :=
  if meters = 0#32 ∨ MeterSetOperand.ok o = false then refuse .range s
  else
    let s := s.eachMeter (metersOf meters) (State.meterSet o)
    taken (.meters ((metersOf meters).map s.meterSnapshot)) s

/-- METER-SET (R140). -/
def execMeterSet (d : Dest) (meters : BitVec 32) (o : MeterSetOperand) (s : State) : Result :=
  takeRequest 33 false d (meterSetAct meters o) s

/-! ## SCALE-LOAD (R148), HOLD-CLEAR (R151), BRIGHTNESS (R150), STREAM-SET (R152) -/

/-- Strictly decreasing, from segment 1 to segment 40. -/
def strictlyFalls : List Nat → Bool
  | [] => true
  | [_] => true
  | a :: b :: rest => decide (b < a) && strictlyFalls (b :: rest)

/-- The owner's answer to SCALE-LOAD. A table that is neither A nor B is RANGE even where its thresholds do not fall: the
model's choice (log entry 41). -/
def scaleLoadAct (table : Nat) (thresholds : Vector Nat 40) (s : State) : Taken :=
  match tableOf table with
  | none => refuse .range s
  | some t =>
    if thresholds.toList.any (fun n => decide (255 < n)) then refuse .range s
    else if !strictlyFalls thresholds.toList then refuse .notMonotonic s
    else taken .none (s.modSettings fun c => match t with
      | .a => { c with scaleA := thresholds }
      | .b => { c with scaleB := thresholds })

/-- SCALE-LOAD (R148). -/
def execScaleLoad (d : Dest) (table : Nat) (thresholds : Vector Nat 40) (s : State) : Result :=
  takeRequest 34 false d (scaleLoadAct table thresholds) s

/-- R151: one meter, or the pair it is linked in, is cleared. -/
def State.clearHold (m : MeterIx) (s : State) : State :=
  if s.linked m then
    let g := fun x : Meter => x.share (min (s.meter (lower m)).bar (s.meter (upper m)).bar) false
    (s.modMeter (lower m) g).modMeter (upper m) g
  else s.modMeter m fun x => x.share x.bar false

/-- The owner's answer to HOLD-CLEAR. -/
def holdClearAct (meters : BitVec 32) (s : State) : Taken :=
  if meters = 0#32 then refuse .range s
  else
    let s := s.eachMeter (metersOf meters) State.clearHold
    taken (.shown ((metersOf meters).map fun m => (s.meter m).shown)) s

/-- HOLD-CLEAR (R151). -/
def execHoldClear (d : Dest) (meters : BitVec 32) (s : State) : Result := takeRequest 36 true d (holdClearAct meters) s

/-- The owner's answer to BRIGHTNESS. -/
def brightnessAct (value : Nat) (s : State) : Taken :=
  if value ≤ 15 then taken .none (s.modSettings fun c => { c with brightness := value }) else refuse .range s

/-- BRIGHTNESS (R150). -/
def execBrightness (d : Dest) (value : Nat) (s : State) : Result := takeRequest 37 true d (brightnessAct value) s

/-- The owner's answer to STREAM-SET. -/
def streamSetAct (base : Nat) (s : State) : Taken :=
  if base ≤ 32 then taken .none (s.modSettings fun c => { c with baseSlot := base }) else refuse .range s

/-- STREAM-SET (R152). -/
def execStreamSet (d : Dest) (base : Nat) (s : State) : Result := takeRequest 38 false d (streamSetAct base) s

/-! ## The display frame (R143 to R149) -/

/-- The bar and the fall counter. -/
structure BarItems where
  bar : Nat
  fall : Nat
  deriving DecidableEq, Repr

/-- R144: the fall of PEAK and PROGRAMME when the input is quieter than the bar. -/
def fallStep (interval : Nat) (b : BarItems) : BarItems :=
  if 255 ≤ b.bar then ⟨b.bar, 0⟩
  else if interval ≤ b.fall + 1 then ⟨b.bar + 1, 0⟩
  else ⟨b.bar, b.fall + 1⟩

/-- R144, Table 9-3: the bar step for the input level `a`. -/
def barStep (mode : MeterMode) (interval a : Nat) (b : BarItems) : BarItems :=
  match mode with
  | .peak => if a < b.bar then ⟨a, 0⟩ else if a = b.bar then ⟨b.bar, 0⟩ else fallStep interval b
  | .programme =>
    if a < b.bar then ⟨b.bar - ceilDiv (b.bar - a) 2, 0⟩ else if a = b.bar then ⟨b.bar, 0⟩ else fallStep interval b
  | .average =>
    if a < b.bar then ⟨b.bar - ceilDiv (b.bar - a) 16, 0⟩ else ⟨b.bar + ceilDiv (a - b.bar) 16, 0⟩

/-- The hold items. -/
structure HoldItems where
  hold : Nat
  state : HoldState
  elapsed : Nat
  deriving DecidableEq, Repr

/-- R145 before the expiry of its timer. -/
def holdTimed (bar : Nat) (h : HoldItems) : HoldItems :=
  match h.state with
  | .holding => if bar ≤ h.hold then ⟨bar, .holding, 0⟩ else { h with elapsed := min 2000 (h.elapsed + 1) }
  | .following => if bar < h.hold then ⟨bar, .holding, 0⟩ else { h with hold := bar }

/-- R145: the hold timer expires. -/
def holdExpires (limit : Option Nat) (h : HoldItems) : Bool :=
  decide (h.state = .holding) && match limit with
    | some t => decide (t / 5 ≤ h.elapsed)
    | none => false

/-- R145: the hold step. -/
def holdStep (bar : Nat) (limit : Option Nat) (h : HoldItems) : HoldItems :=
  let t := holdTimed bar h
  if holdExpires limit t then { t with hold := bar, state := .following } else t

/-- The lamp items. -/
structure LampItems where
  lamp : Bool
  elapsed : Nat
  deriving DecidableEq, Repr

/-- R147: a lit lamp's timer runs out at a frame without an overload. -/
def lampExpires (loud : Bool) (limit : Option Nat) (l : LampItems) : Bool :=
  !loud && l.lamp && match limit with
    | some t => decide (t / 5 ≤ min 2000 (l.elapsed + 1))
    | none => false

/-- R147: the lamp step. -/
def lampStep (loud : Bool) (limit : Option Nat) (l : LampItems) : LampItems :=
  if loud then ⟨true, 0⟩
  else if l.lamp then ⟨!lampExpires loud limit l, min 2000 (l.elapsed + 1)⟩
  else l

/-- R149: the number of thresholds at which a level lights. -/
def litSegments (table : Vector Nat 40) (level : Nat) : Nat := table.toList.countP fun t => decide (level ≤ t)

/-- The scale table a meter uses. -/
def State.scaleOf (s : State) (m : MeterIx) : Vector Nat 40 :=
  match (s.meterConfig m).table with
  | .a => s.settings.scaleA
  | .b => s.settings.scaleB

/-- The bar items of a meter after the frame. -/
def State.barAfter (s : State) (m : MeterIx) : BarItems :=
  barStep (s.meterConfig m).mode (s.meterConfig m).fallInterval (s.meter m).acc ⟨(s.meter m).bar, (s.meter m).fall⟩

/-- R147: the overload test on a meter's frame input. -/
def State.overloaded (s : State) (m : MeterIx) : Bool :=
  (s.meter m).clip || decide ((s.meter m).acc ≤ (s.meterConfig m).threshold)

/-- R146: the bar the hold of a meter is stepped by: its own, or the louder of its linked pair. -/
def State.holdBar (s : State) (m : MeterIx) : Nat :=
  if s.linked m then min (s.barAfter (lower m)).bar (s.barAfter (upper m)).bar else (s.barAfter m).bar

/-- R146: the overload that reaches the lamp of a meter. -/
def State.lampOver (s : State) (m : MeterIx) : Bool :=
  if s.linked m then s.overloaded (lower m) || s.overloaded (upper m) else s.overloaded m

/-- R139: the meter whose hold time and overload hold govern. -/
def State.governor (s : State) (m : MeterIx) : MeterIx := if s.linked m then lower m else m

/-- The hold items of a meter. -/
def Meter.holdItems (x : Meter) : HoldItems := ⟨x.hold, x.holdState, x.holdElapsed⟩

/-- The lamp items of a meter. -/
def Meter.lampItems (x : Meter) : LampItems := ⟨x.lamp, x.lampElapsed⟩

/-- R143: one meter after a display frame. -/
def State.meterAfter (s : State) (m : MeterIx) : Meter :=
  let b := s.barAfter m
  let h := holdStep (s.holdBar m) (s.meterConfig (s.governor m)).holdTime (s.meter m).holdItems
  let l := lampStep (s.lampOver m) (s.meterConfig (s.governor m)).overloadHold (s.meter m).lampItems
  { acc := 255
    clip := false
    bar := b.bar
    fall := b.fall
    hold := h.hold
    holdState := h.state
    holdElapsed := h.elapsed
    lamp := l.lamp
    lampElapsed := l.elapsed
    shown := ⟨litSegments (s.scaleOf m) b.bar, litSegments (s.scaleOf m) h.hold, l.lamp⟩ }

/-- R143: a display frame, 5 ms after the last one at the earliest (log entry 3): every meter is stepped and the image
is handed to the Display Scanner. -/
def State.displayFrame (s : State) : State :=
  let t := max s.now s.nextDisplay
  let ms' := Vector.ofFn s.meterAfter
  { s with
    now := t
    nextDisplay := t + ms 5
    meters := ms'
    scanner := { s.scanner with handed := ms'.map (·.shown) } }

/-- DISPLAY_FRAME (R143). -/
def execDisplayFrame (s : State) : Result := .next (if s.part = .ready then s.displayFrame else s)

/-- HOLD_EXPIRY (R145): the display frame at which the hold timer of a meter expires (log entry 12). -/
def execHoldExpiry (m : MeterIx) (s : State) : Result :=
  .next (if s.part = .ready ∧ holdExpires (s.meterConfig (s.governor m)).holdTime
      (holdTimed (s.holdBar m) (s.meter m).holdItems) then s.displayFrame else s)

/-- LAMP_EXPIRY (R147): the display frame at which the lamp timer of a meter runs out (log entry 12). -/
def execLampExpiry (m : MeterIx) (s : State) : Result :=
  .next (if s.part = .ready ∧ lampExpires (s.lampOver m) (s.meterConfig (s.governor m)).overloadHold
      (s.meter m).lampItems then s.displayFrame else s)

/-! ## The Display Scanner (R150) -/

/-- SCAN_FRAME_START (R150): the image last handed on and the brightness in force are committed. -/
def execScanFrameStart (s : State) : Result :=
  .next (if s.part = .ready then
    let t := max s.now s.nextScan
    { s with
      now := t
      nextScan := t + ms 5
      scanner := ⟨s.scanner.handed, s.scanner.handed, s.settings.brightness⟩ }
    else s)

/-- R149, R150: an image lights a row of a meter's column: rows 0-39 are segments 1-40, row 40 is the lamp. -/
def Shown.lights (x : Shown) (row : Nat) : Bool :=
  if row = 40 then x.lamp else decide (row + 1 ≤ x.segments) || decide (x.dot = row + 1)

/-- R150: the fifteenths of a row's share for which a column is driven in the present scan frame. -/
def State.columnDrive (s : State) (row : Nat) (m : MeterIx) : Nat :=
  if s.scanner.committed[m.val].lights row then s.scanner.committedBrightness else 0

/-! ## The Level Stream Receiver (R152, R153) -/

/-- A number from its bits, most significant first. -/
def bitsValue (bits : List Bool) : Nat := bits.foldl (fun n b => 2 * n + if b then 1 else 0) 0

/-- 10-8: the level and the clip mark of slot `k` of a frame. -/
def slotOf (bits : List Bool) (k : Nat) : Nat × Bool :=
  (bitsValue ((bits.drop (16 * k)).take 8), ((bits.drop (16 * k + 8)).headD false))

/-- R141, R152: an accepted frame gives meter Mn the slot base + n as an input, where its source is STREAM. -/
def State.streamInputs (s : State) (bits : List Bool) : State :=
  s.eachMeter allMeters fun m s =>
    if (s.meterConfig m).source = .stream then
      s.modMeter m fun x => x.input (slotOf bits (s.settings.baseSlot + m.val)).1
        (slotOf bits (s.settings.baseSlot + m.val)).2
    else s

/-- The Level Stream Receiver's items changed by `g`. -/
def State.modStream (s : State) (g : Stream → Stream) : State := { s with stream := g s.stream }

/-- R152, R153: a complete frame is accepted: LIVE restored with a STREAM notice, the loss timer restarted, the slots
handed to the meters. -/
def State.acceptStream (s : State) (bits : List Bool) : State :=
  let lost := !s.stream.live
  let s := s.modStream fun x => { x with live := true, lossStart := s.now }
  (if lost then s.raise (.stream true) else s).streamInputs bits

/-- R152: a frame sync judges the bits gathered since the one before and opens the next frame; the first sync after READY
or RESTART only opens one (log entry 30). -/
def State.streamSync (s : State) (bits : List Bool) : State :=
  (if s.stream.gathering && decide (bits.length = 1024) then s.acceptStream bits else s).modStream fun x =>
    { x with gathering := true }

/-- LEVEL_STREAM_FRAME (R152). -/
def execLevelStreamFrame (bits : List Bool) (s : State) : Result :=
  .next (if s.part = .ready then s.streamSync bits else s)

/-- R153: 20 ms without an accepted frame. -/
def streamTimeout : Time := ms 20

/-- STREAM_LOSS (R153): at its time or the present one. -/
def execStreamLoss (s : State) : Result :=
  .next (if s.part = .ready ∧ s.stream.live then
    ({ s with now := max s.now (s.stream.lossStart + streamTimeout) }.modStream fun x =>
      { x with live := false }).raise (.stream false)
    else s)

end Sys2Proof.Machine
end

