-- ==== Sys2Proof/Machine/Notices.lean ====
section
/-! DEFINITION. Notice records (Table 10-6), the removal of a notice at assembly (R166) and COLLECT (R165). -/

namespace Sys2Proof.Machine

/-- The kind's place in Table 10-7. -/
def Notice.kindCode : Notice → Nat
  | .move _ => 0
  | .capture _ => 1
  | .motion _ _ _ _ _ => 2
  | .fault _ _ => 3
  | .rest _ _ _ => 4
  | .lane _ _ _ => 5
  | .cal _ _ _ _ _ _ => 6
  | .recallEnd _ _ _ _ => 7
  | .stream _ => 8
  | .sync _ _ => 9
  | .link _ _ => 10
  | .profile _ => 11
  | .started _ => 12

/-- The source byte: the fader, the tag, or 0 for the part. -/
def Notice.sourceByte (n : Notice) : Nat :=
  match n.key with
  | .fader f _ => f.val
  | .recallEnd tag => tag
  | .part _ => 0

/-- One capture in a CAPTURE record. -/
def Capture.wire (c : Capture) : List Byte := byte1 (if c.on then 0 else 1) ++ byte2 c.pos ++ byte3 c.count

/-- The content of a notice record, with the fields read at assembly taken from their owners. Table 10-6 gives the clamped
mark of MOTION and the not-started mark of RECALL-END one byte each and no values; that the byte is 1 for a set mark and 0 for a
clear one is the model's choice (DESIGN CHOICE, log entry 46). That the bits 10-8 does not name in the CAPTURE count byte, in
the LANE, CAL and LINK flags and in a set of conditions are sent as 0 is the model's choice (DESIGN CHOICE, log entry 47). -/
def State.content (s : State) : Notice → List Byte
  | .move f => byte2 (s.posOf f)
  | .capture f =>
    byte1 ((s.fader f).touch.captures.length + mark (s.fader f).touch.lost 128)
      ++ (s.fader f).touch.captures.flatMap Capture.wire
  | .motion _ kind outcome pos clamped => byte1 kind.code ++ byte1 outcome.code ++ byte2 pos ++ byte1 (mark clamped 1)
  | .fault f latch =>
    byte1 latch.code ++ byte1 (s.fader f).fault.latched.code ++ byte1 (s.fader f).fault.current.code
      ++ byte2 (s.posOf f)
  | .rest f entered cause => byte1 (if entered then 0 else 1) ++ byte1 cause.code ++ byte2 (s.heatOf f)
  | .lane f reason count =>
    byte1 reason.code ++ byte3 count
      ++ byte1 (mark (s.fader f).lane.enabled 1 + mark (s.fader f).lane.value.isSome 2)
      ++ byte1 (s.fader f).lane.queue.length ++ optional2 (s.fader f).lane.value
  | .cal _ outcome phase low high span =>
    byte1 outcome.code ++ byte1 phase.code ++ byte1 (mark low.isSome 1 + mark high.isSome 2 + mark span.isSome 4)
      ++ optional2 low ++ optional2 high ++ optionalSigned2 span
  | .recallEnd _ page notStarted items =>
    byte1 page.val ++ byte1 (mark notStarted 1) ++ byte1 items.length
      ++ items.flatMap fun (f, o) => byte1 f.val ++ byte1 o.code
  | .stream restored => byte1 (mark restored 1)
  | .sync restored count => byte1 (mark restored 1) ++ byte3 count
  | .link event teardown => byte1 event.code ++ byte1 (mark teardown 1 + mark s.link.duplicate 2)
  | .profile result => byte1 result.code
  | .started cause => byte1 cause.code

/-- A notice record: kind, source, content length, content (10-8). -/
def State.noticeRecord (s : State) (n : Notice) : List Byte :=
  byte1 n.kindCode ++ byte1 n.sourceByte ++ byte1 (s.content n).length ++ s.content n

/-- R29: the last reported position becomes the one delivered, and the MOVE test is made again. -/
def State.reported (s : State) (f : FaderIx) (pos : Nat) : State :=
  (s.modRecord f fun r => { r with lastReported := pos }).moveTest f

/-- R166: what the removal of a notice at assembly does to its source. -/
def State.delivered (s : State) : Notice → State
  | .move f => s.reported f (s.posOf f)
  | .motion f _ _ pos _ => s.reported f pos
  | .capture f => s.modTouch f fun t => { t with captures := [], lost := false }
  | .fault f _ =>
    if (s.fader f).fault.latched.isEmpty then s.modFault f fun x => { x with lastLatch := none } else s
  | _ => s

/-- An assembly: the state, the record bytes placed and their number. -/
structure Assembly where
  st : State
  bytes : List Byte
  placed : Nat

/-- R165: records are placed from the head until the maximum is reached, the next one does not fit the bytes left, or
the list is empty. A MOVE that R29's repeated test raises afresh after this assembly has placed that key joins the tail
(R166) and may be reached and placed a second time in the same reply, which R166 does not settle: the model's choice (DESIGN
CHOICE, log entry 43). -/
def assemble : Nat → Nat → State → Assembly
  | 0, _, s => ⟨s, [], 0⟩
  | n + 1, room, s =>
    match s.notices with
    | [] => ⟨s, [], 0⟩
    | x :: rest =>
      if (s.noticeRecord x).length ≤ room then
        let a := assemble n (room - (s.noticeRecord x).length) ({ s with notices := rest }.delivered x)
        ⟨a.st, s.noticeRecord x ++ a.bytes, a.placed + 1⟩
      else ⟨s, [], 0⟩

/-- The data of a COLLECT reply: the count with the more-pending mark in bit 7, then the records. Bits 5 and 6 of the count
byte, which 10-8 does not name, are sent as 0: the model's choice (DESIGN CHOICE, log entry 47). -/
def Assembly.data (a : Assembly) : List Byte := byte1 (a.placed + mark (!a.st.notices.isEmpty) 128) ++ a.bytes

/-- The owner's answer to COLLECT. -/
def collectAct (maximum : Nat) (s : State) : Taken :=
  if 1 ≤ maximum ∧ maximum ≤ 16 then taken (.bytes (assemble maximum 126 s).data) (assemble maximum 126 s).st
  else refuse .range s

/-- COLLECT (R165). -/
def execCollect (d : Dest) (maximum : Nat) (s : State) : Result := takeRequest 40 false d (collectAct maximum) s

end Sys2Proof.Machine
end

