-- ==== Sys2Proof/Machine/Timeline.lean ====
section
/-! DEFINITION. The Timeline Counter and the Lane Engine (Chapter 8): count changes, points consumed, lane values handed
to Fader Control, backward jumps and the teardown of lanes. -/

namespace Sys2Proof.Machine

/-- The saturated count (R121). -/
def maxCount : Nat := 16777215

/-- R130: the value along a segment at a count, rounded to the nearest step, halves toward the to-point. -/
def Segment.valueAt (g : Segment) (count : Nat) : Nat :=
  let d := g.toTime - g.fromTime
  let moved := (2 * dist g.fromPos g.toPos * (count - g.fromTime) + d) / (2 * d)
  if g.fromPos ≤ g.toPos then g.fromPos + moved else g.fromPos - moved

/-- R129, R130: a lane takes a count change: every due point is taken, and the lane value set from the last one taken or
along the active segment. The second component says that the lane has starved. -/
def Lane.step (l : Lane) (count : Nat) : Lane × Bool :=
  let due := l.queue.takeWhile fun p => decide (p.time ≤ count)
  let rest := l.queue.dropWhile fun p => decide (p.time ≤ count)
  match due.getLast? with
  | none =>
    match l.segment with
    | some g => ({ l with value := some (g.valueAt count) }, false)
    | none => (l, false)
  | some p =>
    let l := { l with queue := rest, current := some p.shape, lastTime := some p.time }
    match p.shape with
    | .step => ({ l with value := some p.pos, segment := none }, false)
    | .ramp =>
      match rest with
      | q :: _ =>
        let g : Segment := ⟨p.time, p.pos, q.time, q.pos⟩
        ({ l with value := some (g.valueAt count), segment := some g }, false)
      | [] => ({ l with value := some p.pos, segment := none, starved := true }, true)

/-- R131, R133: the lane value of an enabled lane has changed: where the LANE claim is not suspended the target becomes
it, with the chase glide after a forward jump and no planned arrival otherwise. -/
def State.handLaneValue (s : State) (f : FaderIx) (v : Nat) (jump : Bool) : State :=
  if s.claimOf f = .lane false ∧ (s.stateOf f).takesClaims then
    (s.modRecord f fun r =>
      { r with planned := if jump then some (s.now + ms (s.fader f).lane.chase) else none }).retarget f v
  else s

/-- R129 to R133: the lane of `f` takes a count change. -/
def State.laneCount (s : State) (f : FaderIx) (jump : Bool) : State :=
  let old := (s.fader f).lane
  let new := old.step s.timeline.count
  let s := s.modLane f fun _ => new.1
  let s := if new.2 then s.raise (.lane f .starved s.timeline.count) else s
  match new.1.value with
  | some v => if new.1.enabled && decide (new.1.value ≠ old.value) then s.handLaneValue f v jump else s
  | none => s

/-- R121: a count change is handed to each of the sixteen lanes and then to the Recall Engine (log entry 14). -/
def State.countChange (s : State) (jump : Bool) : State :=
  ((s.each allFaders fun f s => s.laneCount f jump).startTest .countChange).settleRecalls

/-- R132: what a backward jump does to one lane. -/
def State.flushLane (s : State) (f : FaderIx) : State :=
  let held := !(s.fader f).lane.queue.isEmpty
  let s := s.modLane f fun l =>
    { l with queue := [], current := none, segment := none, starved := false, lastTime := none }
  if held then s.raise (.lane f .flushed s.timeline.count) else s

/-- R126, R132: the count changes backward: every lane is flushed, and the Recall Engine makes its start test. -/
def State.backwardJump (s : State) : State :=
  ((s.each allFaders fun f s => s.flushLane f).startTest .countChange).settleRecalls

/-- R121: a frame event: the count rises by 1 while RUN and LOCKED, and stays at 16,777,215. -/
def State.frameEvent (s : State) : State :=
  if s.timeline.run && s.timeline.locked && decide (s.timeline.count < maxCount) then
    { s with timeline := { s.timeline with count := s.timeline.count + 1 } }.countChange false
  else s

/-- Three nominal frame periods (R122, Table 8-2). -/
def State.syncLimit (s : State) : Time := 3 * s.settings.frameRate.period

/-- The sync timer (Table 8-1): the time since it restarted, held at three frame periods (R122). RESTART clears it (R120);
that it reads 0 until READY and starts there is the model's choice (log entry 23). R122 watches FRAME under source
EXTERNAL only; that under INTERNAL and LINK the timer runs on, no FRAME edge restarting it, held at three periods of the rate then in
force, is the model's choice (DESIGN CHOICE, log entry 44). -/
def State.syncTimer (s : State) : Time :=
  if s.part = .ready then min (s.now - s.timeline.syncStart) s.syncLimit else 0

/-- The Timeline items a TIME-SET, TRANSPORT or TIME-SOURCE reply carries (R120, Table 8-1; log entry 37). -/
def State.timelineItems (s : State) : TimelineItems :=
  ⟨s.timeline.count, s.timeline.run, s.settings.source, s.settings.frameRate, s.timeline.locked, s.syncTimer,
    s.timeline.phase⟩

/-- The Timeline items a LANE-READ reply carries (R137). -/
def State.laneTimeline (s : State) : TimelineSnapshot :=
  ⟨s.timeline.count, s.timeline.run, s.settings.source, s.settings.frameRate, s.timeline.locked⟩

/-- R121: the whole frame periods of a rate that have passed since the generator phase. -/
def Timeline.periodsAt (t : Timeline) (now : Time) (rate : FrameRate) : Nat := (now - t.phase) / rate.period

/-- R120: the Timeline at READY and at RESTART: count 0, STOP, LOCKED, sync timer and generator phase cleared. The sync
timer that starts at READY and the phase 0 are the model's choices (DESIGN CHOICE, log entries 23 and 49); the whole
periods the generator has behind it are those of the rate in force (log entry 49). -/
def Timeline.cleared (now : Time) (rate : FrameRate) : Timeline := ⟨0, false, true, now, 0, now / rate.period⟩

/-- R138: one lane at the teardown: an enabled lane is disabled and its claim ends; a disabled one holding points is
emptied; each raises LANE with reason LINK. -/
def State.tearLane (s : State) (f : FaderIx) : State :=
  let l := (s.fader f).lane
  if l.enabled then (s.disableLane f (some .link)).dropClaim f .linklost
  else if l.queue.isEmpty then s
  else (s.modLane f fun l => { l with queue := [], current := none, segment := none, starved := false }).raise
    (.lane f .link s.timeline.count)

end Sys2Proof.Machine
end

