-- ==== Sys2Proof/Machine/TimelineRequests.lean ====
section
/-! DEFINITION. The requests and events of the Timeline Counter and the Lane Engine (R121 to R137). -/

namespace Sys2Proof.Machine

/-! ## TIME-SET, TRANSPORT, TIME-SOURCE (R124 to R126) -/

/-- The Timeline items changed by `g`. -/
def State.modTimeline (s : State) (g : Timeline → Timeline) : State := { s with timeline := g s.timeline }

/-- R126: the count set: nothing, a backward jump or a forward jump. -/
def State.setCount (s : State) (count : Nat) : State :=
  let old := s.timeline.count
  let s' := s.modTimeline fun t => { t with count := count }
  if count = old then s else if count < old then s'.backwardJump else s'.countChange true

/-- Answered OK with the Timeline items. -/
def takenTimeline (s : State) : Taken := taken (.timeline s.timelineItems) s

/-- The owner's answer to TIME-SET. -/
def timeSetAct (count : Nat) (s : State) : Taken :=
  if count ≤ maxCount then takenTimeline (s.setCount count) else refuse .range s

/-- TIME-SET (R126). -/
def execTimeSet (d : Dest) (count : Nat) (s : State) : Result := takeRequest 26 true d (timeSetAct count) s

/-- R121, R122, R124: the transport set; to RUN it restarts the sync timer and, with source INTERNAL, the generator. -/
def State.setTransport (s : State) (run : Bool) : State :=
  if run then
    let s := s.modTimeline fun t => { t with run := true, syncStart := s.now }
    if s.settings.source = .internal then s.modTimeline fun t => { t with phase := s.now, frames := 0 } else s
  else s.modTimeline fun t => { t with run := false }

/-- The owner's answer to TRANSPORT. -/
def transportAct (value : Nat) (s : State) : Taken :=
  match transportOf value with
  | some run => takenTimeline (s.setTransport run)
  | none => refuse .range s

/-- TRANSPORT (R124). -/
def execTransport (d : Dest) (value : Nat) (s : State) : Result := takeRequest 27 true d (transportAct value) s

/-- R121, R122, R125: source and rate set; EXTERNAL restarts the sync timer, any other source is LOCKED, and INTERNAL
sets the generator phase while the transport is RUN; while it is STOP the phase stands, and the generator's next event ends
the first whole period of the rate carried that is still to end, counted from the phase. A TIME-SOURCE that carries EXTERNAL
and the rate in force while the source is EXTERNAL restarts the sync timer too: the model's choice (log entry 40). -/
def State.setSource (s : State) (source : Source) (rate : FrameRate) : State :=
  let s := s.modSettings fun c => { c with source := source, frameRate := rate }
  match source with
  | .external => s.modTimeline fun t => { t with syncStart := s.now }
  | .internal =>
    s.modTimeline fun t =>
      if t.run then { t with locked := true, phase := s.now, frames := 0 }
      else { t with locked := true, frames := t.periodsAt s.now rate }
  | .link => s.modTimeline fun t => { t with locked := true }

/-- The owner's answer to TIME-SOURCE. -/
def timeSourceAct (source rate : Nat) (s : State) : Taken :=
  match sourceOf source, frameRateOf rate with
  | some x, some r => takenTimeline (s.setSource x r)
  | _, _ => refuse .range s

/-- TIME-SOURCE (R125). -/
def execTimeSource (d : Dest) (source rate : Nat) (s : State) : Result :=
  takeRequest 28 false d (timeSourceAct source rate) s

/-! ## Lanes (R128, R134, R135, R137) -/

/-- The chase glide of a LANE-ENABLE, where present, written to the lane; the lane becomes enabled. -/
def State.enableLane (s : State) (f : FaderIx) (chase : Option Nat) : State :=
  s.modLane f fun l => { l with enabled := true, chase := chase.getD l.chase }

/-- R134: LANE-ENABLE by the claim arrival tables. -/
def takeLane (f : FaderIx) (chase : Option Nat) (s : State) : Taken :=
  if (s.fader f).lane.enabled then taken .none (s.enableLane f chase)
  else
    match s.stateOf f with
    | .faulted => refuse .faulted s
    | .calibrating _ => refuse .calibrating s
    | .touched => taken .none ((s.enableLane f chase).modRecord f fun r => { r with claim := .lane true })
    | _ =>
      if (s.claimOf f).isRecall then refuse .recallActive s
      else
        let s := s.enableLane f chase
        let l := (s.fader f).lane
        match l.value with
        | some v => taken .none (s.takeClaim f (.lane false) v (some (s.now + ms l.chase)) none none)
        | none => taken .none (s.takeClaim f (.lane false) (s.posOf f) none none none)

/-- The owner's answer to LANE-ENABLE. -/
def laneEnableAct (fader : Nat) (chase : Option Nat) (s : State) : Taken :=
  match faderOf fader with
  | none => refuse .range s
  | some f => if okWhen chase (fun n => decide (n ≤ 10000)) then takeLane f chase s else refuse .range s

/-- LANE-ENABLE (R134). -/
def execLaneEnable (d : Dest) (fader : Nat) (chase : Option Nat) (s : State) : Result :=
  takeRequest 29 false d (laneEnableAct fader chase) s

/-- R135: LANE-DISABLE on an enabled lane, whose LANE claim ends, or on a disabled one. -/
def State.laneDisable (s : State) (f : FaderIx) : State :=
  if (s.fader f).lane.enabled then (s.disableLane f none).endClaim f .halted
  else s.modLane f fun l => { l with queue := [], current := none, segment := none, starved := false }

/-- The owner's answer to LANE-DISABLE. -/
def laneDisableAct (fader : Nat) (s : State) : Taken :=
  match faderOf fader with
  | none => refuse .range s
  | some f => taken .none (s.laneDisable f)

/-- LANE-DISABLE (R135). -/
def execLaneDisable (d : Dest) (fader : Nat) (s : State) : Result := takeRequest 30 false d (laneDisableAct fader) s

/-- A point of a POINTS list in range, or nothing. -/
def pointOf (p : PointOperand) : Option Point :=
  match shapeOf p.shape with
  | some sh => if p.time ≤ maxCount ∧ p.position ≤ 1023 then some ⟨p.time, p.position, sh⟩ else none
  | none => none

/-- Every point in range, or nothing. -/
def pointsOf : List PointOperand → Option (List Point)
  | [] => some []
  | p :: rest =>
    match pointOf p, pointsOf rest with
    | some x, some l => some (x :: l)
    | _, _ => none

/-- Times strictly rise from `t` on. -/
def risesFrom : Nat → List Point → Bool
  | _, [] => true
  | t, p :: rest => decide (t < p.time) && risesFrom p.time rest

/-- R128 check 2: the list rises strictly, and its first time lies after the last queued point and the last consumed
time. -/
def Lane.inOrder (l : Lane) (first : Point) (rest : List Point) : Bool :=
  risesFrom first.time rest
    && (match l.queue.getLast? with
      | some q => decide (q.time < first.time)
      | none => true)
    && (match l.lastTime with
      | some t => decide (t < first.time)
      | none => true)

/-- R128, R130: the points appended; a starved lane ramps from its held value to the first of them. -/
def Lane.append (l : Lane) (count : Nat) (first : Point) (rest : List Point) : Lane :=
  { l with
    queue := l.queue ++ first :: rest
    starved := false
    segment :=
      match l.starved, l.value with
      | true, some v => some ⟨count, v, first.time, first.pos⟩
      | _, _ => l.segment }

/-- The owner's answer to POINTS: RANGE, ORDER, LATE, FULL, in that order. -/
def pointsAct (fader : Nat) (list : List PointOperand) (s : State) : Taken :=
  match faderOf fader, pointsOf list with
  | some f, some (first :: rest) =>
    let l := (s.fader f).lane
    if 8 < list.length then refuse .range s
    else if !l.inOrder first rest then refuse .order s
    else if first.time ≤ s.timeline.count then refuse .late s
    else if 16 < l.queue.length + list.length then refuse .full s
    else
      let s := s.modLane f fun l => l.append s.timeline.count first rest
      taken (.queued (s.fader f).lane.queue.length) s
  | _, _ => refuse .range s

/-- POINTS (R128). -/
def execPoints (d : Dest) (fader : Nat) (list : List PointOperand) (s : State) : Result :=
  takeRequest 31 false d (pointsAct fader list) s

/-- The claim-suspended mark (R17). -/
def Claim.isSuspended : Claim → Bool
  | .lane m => m
  | _ => false

/-- The owner's answer to LANE-READ. -/
def laneReadAct (fader : Nat) (s : State) : Taken :=
  match faderOf fader with
  | none => refuse .range s
  | some f => taken (.lane ⟨s.laneTimeline, (s.claimOf f).isSuspended, (s.fader f).lane⟩) s

/-- LANE-READ (R137). -/
def execLaneRead (d : Dest) (fader : Nat) (s : State) : Result := takeRequest 32 false d (laneReadAct fader) s

/-! ## Frame events and sync (R121 to R123) -/

/-- R121: the count a frame event leaves while LOCKED. -/
def State.nextCount (s : State) : Nat :=
  if s.timeline.run && decide (s.timeline.count < maxCount) then s.timeline.count + 1 else s.timeline.count

/-- R122: a FRAME edge with source EXTERNAL restarts the sync timer, restores LOCKED with a SYNC notice carrying the
count after the edge, and is a frame event. -/
def State.framePulse (s : State) : State :=
  let lost := !s.timeline.locked
  let s := s.modTimeline fun t => { t with syncStart := s.now, locked := true }
  (if lost then s.raise (.sync true s.nextCount) else s).frameEvent

/-- FRAME_PULSE (R121): an edge while the source is not EXTERNAL is no frame event. -/
def execFramePulse (s : State) : Result :=
  .next (if s.part = .ready ∧ s.settings.source = .external then s.framePulse else s)

/-- INTERNAL_FRAME_EVENT (R121): the generator's next event, at the end of the next whole frame period after the phase, or
at the present time when that is later (log entries 3 and 28). -/
def execInternalFrameEvent (s : State) : Result :=
  .next (if s.part = .ready ∧ s.settings.source = .internal then
    ({ s with now := max s.now (s.timeline.phase + (s.timeline.frames + 1) * s.settings.frameRate.period) }.modTimeline
      fun t => { t with frames := t.frames + 1 }).frameEvent
    else s)

/-- SYNC_LOSS (R122): the sync timer reaches three frame periods while RUN and LOCKED with source EXTERNAL. -/
def execSyncLoss (s : State) : Result :=
  .next (if s.part = .ready ∧ s.settings.source = .external ∧ s.timeline.run ∧ s.timeline.locked then
    ({ s with now := max s.now (s.timeline.syncStart + s.syncLimit) }.modTimeline
      fun t => { t with locked := false }).raise (.sync false s.timeline.count)
    else s)

end Sys2Proof.Machine
end

