-- ==== Sys2Proof/Machine/Profile.lean ====
section
/-! DEFINITION. The Profile Store, start-up, RESTART, IDENTIFY (Chapter 12), LINK-SET (R162) and the LINK-LOST teardown
(R159). -/

namespace Sys2Proof.Machine

/-! ## STORE (R168) -/

/-- The owner's answer to STORE. -/
def storeAct (s : State) : Taken :=
  if s.storing.isSome then refuse .storeBusy s else accepted .none { s with storing := some s.settings }

/-- STORE (R168). -/
def execStore (d : Dest) (s : State) : Result := takeRequest 42 false d storeAct s

/-- R168: the end of STORING: read back equal (`none`), or differing with the check value the store then holds. -/
def State.endStore (s : State) (c : Settings) (differs : Option (BitVec 16)) : State :=
  match differs with
  | none =>
    { s with storing := none, stored := ⟨c, crc (Config.profileBytes c), true⟩, profileValid := true }.raise
      (.profile .stored)
  | some x => { s with storing := none, stored := ⟨c, x, false⟩, profileValid := false }.raise (.profile .failed)

/-- STORE_END (R168; log entry 26). -/
def execStoreEnd (differs : Option (BitVec 16)) (s : State) : Result :=
  .next (match s.storing with
    | some c => if s.part = .ready then s.endStore c differs else s
    | none => s)

/-! ## RESTART (R170) -/

/-- What RESTART makes of one fader: heat and its window kept (R71), position kept until the next sample, a first
sample (R6, R39). The drive level item is 0 % (R41), and that of the most recent sample stands until the next: the model's
choice (DESIGN CHOICE, log entry 42). -/
def Fader.restart (x : Fader) : Fader :=
  { track := { x.track with first := true }
    touch := ⟨false, 0, 0, [], false, x.touch.nextSample⟩
    record := FaderRecord.at x.track.pos
    motion := Motion.at x.track.pos
    heat := x.heat
    fault := FaultItems.reset
    cal := none
    lane := Lane.reset }

/-- R170: every block cleared as its chapter lays down for RESTART. -/
def State.restart (s : State) : State :=
  { s with
    faders := s.faders.map Fader.restart
    queue := []
    groups := Vector.replicate 4 none
    pages := Vector.replicate 4 Page.empty
    recalls := []
    timeline := Timeline.cleared s.now s.settings.frameRate
    meters := Vector.replicate 32 Meter.reset
    stream := ⟨true, s.now, false⟩
    link := { s.link with lost := false, supStart := s.now, duplicate := false }
    notices := [.started .restart] }

/-- The owner's answer to RESTART. -/
def restartAct (s : State) : Taken := if s.storing.isSome then refuse .storeBusy s else taken .none s.restart

/-- RESTART (R170). -/
def execRestart (d : Dest) (s : State) : Result := takeRequest 43 true d restartAct s

/-! ## IDENTIFY (R171, Table 10-8) -/

/-- One tagged item. -/
def identityItem (tag : Nat) (value : List Byte) : List Byte := byte1 tag ++ byte1 value.length ++ value

/-- The characters VECAJO. -/
def familyName : List Byte := [0x56#8, 0x45#8, 0x43#8, 0x41#8, 0x4A#8, 0x4F#8]

/-- The characters FMC16. -/
def variantName : List Byte := [0x46#8, 0x4D#8, 0x43#8, 0x31#8, 0x36#8]

/-- The identity items in tag order (the stored check value least significant byte first: log entry 29). -/
def State.identity (s : State) : List Byte :=
  identityItem 1 familyName ++ identityItem 2 variantName ++ identityItem 3 (byte1 (Config.revision.val + 1))
    ++ identityItem 4 (byte1 16) ++ identityItem 5 (byte1 32) ++ identityItem 6 (byte1 s.link.address)
    ++ identityItem 7 (byte1 (mark s.link.duplicate 1)) ++ identityItem 8 (byte1 (mark (!s.profileValid) 1))
    ++ identityItem 9 (byte2 s.stored.check.toNat)

/-- The owner's answer to IDENTIFY. -/
def identifyAct (s : State) : Taken := taken (.bytes s.identity) s

/-- IDENTIFY (R171). -/
def execIdentify (d : Dest) (s : State) : Result := takeRequest 41 false d identifyAct s

/-! ## LINK-SET (R162) -/

/-- A link timeout in range: 0, or a multiple of 100 ms in 100-5000 ms. -/
def timeoutOk (t : Nat) : Bool := decide (t = 0 ∨ 100 ≤ t ∧ t ≤ 5000 ∧ t % 100 = 0)

/-- R162: both values written; the timeout in force at once with its timer restarted; the rate in force at once when
broadcast, and from the end of the reply when addressed. -/
def State.setLinkTimes (s : State) (d : Dest) (timeout : Nat) (rate : LinkRate) : State :=
  let s := s.modSettings fun c => { c with linkTimeout := timeout, linkRate := rate }
  { s with link := { s.link with
      supStart := s.now
      rate := match d with
        | .broadcast => rate
        | .addressed => s.link.rate } }

/-- The owner's answer to LINK-SET. -/
def linkSetAct (d : Dest) (timeout rate : Nat) (s : State) : Taken :=
  match linkRateOf rate with
  | some r => if timeoutOk timeout then taken .none (s.setLinkTimes d timeout r) else refuse .range s
  | none => refuse .range s

/-- LINK-SET (R162). -/
def execLinkSet (d : Dest) (timeout rate : Nat) (s : State) : Result :=
  takeRequest 39 true d (linkSetAct d timeout rate) s

/-! ## LINK_LOST (R159) -/

/-- R40: a fader is stopped where it stands: a moving one parks, a resting one rests, with target and hold target at the
position. -/
def State.stopHere (s : State) (f : FaderIx) : State :=
  if (s.stateOf f).moving then ((s.goTo f .parked).holdHere f).moveTest f
  else if s.stateOf f = .rest then s.holdHere f
  else s

/-- R40: Fader Control's part of the teardown at one fader; a LANE claim is ended by the Lane Engine. -/
def State.tearFader (f : FaderIx) (s : State) : State :=
  match s.claimOf f with
  | .none => s.stopHere f
  | .lane _ => s.stopHere f
  | _ => s.dropClaim f .linklost

/-- R87: a calibration in any phase ends LINKLOST. -/
def State.tearCalibration (f : FaderIx) (s : State) : State :=
  match s.stateOf f with
  | .calibrating _ => (s.endCalibration f .linklost none).parkHere f
  | _ => s

/-- R159: the teardown, block by block; the grant rule comes after the last of them, so that no waiting fader is granted a
slot on the way, the first of the two orders R61 allows: the model's choice (log entry 21). -/
def State.teardown (s : State) : State :=
  let s := { s with link := { s.link with lost := true } }
  let s := s.each allFaders State.tearFader
  let s := s.each allFaders fun f s => s.tearLane f
  let s := recallsTornDown s.recalls s
  let s := s.each allFaders State.tearCalibration
  let s := s.each allFaders fun f s => s.evalLead f
  s.grant.raise (.link .lost true)

/-- LINK_LOST (R159): expiry of the supervision timer, at its time or the present one. -/
def execLinkLost (s : State) : Result :=
  .next (if s.part = .ready ∧ s.link.lost = false ∧ s.settings.linkTimeout ≠ 0 then
    { s with now := max s.now (s.link.supStart + ms s.settings.linkTimeout) }.teardown
    else s)

/-! ## Chip reset and start-up (R169) -/

/-- R169: RESET low: every block at its reset values; the non-volatile store keeps what it holds, and one cut short
fails its check at the next load (log entry 27). -/
def State.chipReset (s : State) : State :=
  { State.reset with
    now := s.now
    pending := s.pending
    stored :=
      if s.storing.isSome then { s.stored with check := Config.cutShortCheck s.now, intact := false } else s.stored }

/-- CHIP_RESET (R169). -/
def execChipReset (s : State) : Result := .next s.chipReset

/-- R6: the first sample of one fader through the calibration in force. -/
def State.firstSampleOf (s : State) (raws : Vector (BitVec 12) 16) (f : FaderIx) : State :=
  s.modTrack f fun t => t.firstSample (s.config f).calLow (s.config f).calHigh raws[f.val].toNat

/-- R169 steps 1 to 3: straps, profile, first samples. -/
def State.startUp (s : State) (addr1 addr0 : Strap) (raws : Vector (BitVec 12) 16) : State :=
  let c := if s.stored.intact then s.stored.contents else Settings.default
  let s := { s with
    part := .starting
    settings := c
    profileValid := s.stored.intact
    link := { s.link with address := 4 * strapValue addr1 + strapValue addr0, rate := c.linkRate } }
  s.each allFaders fun f s => s.firstSampleOf raws f

/-- RESET_RELEASE (R169). -/
def execResetRelease (addr1 addr0 : Strap) (raws : Vector (BitVec 12) 16) (s : State) : Result :=
  .next (if s.part = .inReset then s.startUp addr1 addr0 raws else s)

/-- One fader at READY: every item at its reset value (R14, R71, R80, R89, R127) but what the first sample has set (R6)
and the record and setpoint it gives (R39, R41). The first servo sample and the first touch sample after READY fall at
READY, so that a fault input active through the reset is found current 1 ms after it (R80; log entry 3). -/
def Fader.ready (now : Time) (x : Fader) : Fader :=
  { Fader.reset with
    track := { x.track with first := false, nextSample := now }
    touch := { Fader.reset.touch with nextSample := now }
    record := FaderRecord.at x.track.pos
    motion := Motion.at x.track.pos }

/-- R167, R169: the part becomes READY: every block at its reset values, with the settings, address and first positions
that STARTING has taken, the timers started, STARTED with cause POWER, and PROFILE with result DEFAULTS where the check
failed. The first display frame and the first scan frame start fall 5 ms after READY, and a scan frame start before the
first display frame commits the dark image: the model's choice (R143, R150, R154; log entry 3). -/
def State.becomeReady (s : State) : State :=
  { State.reset with
    now := s.now
    part := .ready
    settings := s.settings
    stored := s.stored
    profileValid := s.profileValid
    faders := s.faders.map (Fader.ready s.now)
    nextDisplay := s.now + ms 5
    nextScan := s.now + ms 5
    timeline := Timeline.cleared s.now s.settings.frameRate
    stream := { State.reset.stream with lossStart := s.now }
    link := { State.reset.link with address := s.link.address, rate := s.link.rate, supStart := s.now }
    notices := if s.profileValid then [.started .power] else [.started .power, .profile .defaults]
    pending := s.pending }

/-- PART_READY (R169). -/
def execPartReady (s : State) : Result := .next (if s.part = .starting then s.becomeReady else s)

end Sys2Proof.Machine
end

