-- ==== Sys2Proof/Machine/RecallRequests.lean ====
section
/-! DEFINITION. The requests of the Recall Engine (R102 to R117). -/

namespace Sys2Proof.Machine

/-! ## Pages (R102, R103) -/

/-- An entry of a PAGE-LOAD list in range, or nothing. -/
def entryOf (e : EntryOperand) : Option Entry :=
  match faderOf e.fader with
  | some f => if e.target ≤ 1023 ∧ okWhen e.glide (fun n => decide (n ≤ 10000)) then some ⟨f, e.target, e.glide⟩ else none
  | none => none

/-- Every entry in range, or nothing. -/
def entriesOf : List EntryOperand → Option (List Entry)
  | [] => some []
  | e :: rest =>
    match entryOf e, entriesOf rest with
    | some x, some l => some (x :: l)
    | _, _ => none

/-- No fader appears twice (R101). -/
def distinctFaders : List Entry → Bool
  | [] => true
  | e :: rest => rest.all (fun x => decide (x.fader ≠ e.fader)) && distinctFaders rest

/-- The number of queued recalls that name a page (R103, R104). -/
def State.namings (s : State) (p : PageIx) : Nat := s.recalls.countP fun r => decide (r.page = p)

/-- The page replaced whole. -/
def State.setPage (s : State) (p : PageIx) (x : Page) : State := { s with pages := s.pages.set p.val x }

/-- The owner's answer to PAGE-LOAD: RANGE, DUPLICATE, PAGE-BUSY, in that order. -/
def pageLoadAct (page glide : Nat) (entries : List EntryOperand) (s : State) : Taken :=
  match pageOf page, entriesOf entries with
  | some p, some l =>
    if 10000 < glide ∨ 16 < l.length then refuse .range s
    else if !distinctFaders l then refuse .duplicate s
    else if s.namings p ≠ 0 then refuse .pageBusy s
    else taken .none (s.setPage p ⟨glide, l⟩)
  | _, _ => refuse .range s

/-- PAGE-LOAD (R102). -/
def execPageLoad (d : Dest) (page glide : Nat) (entries : List EntryOperand) (s : State) : Result :=
  takeRequest 18 false d (pageLoadAct page glide entries) s

/-- The owner's answer to PAGE-READ. -/
def pageReadAct (page : Nat) (s : State) : Taken :=
  match pageOf page with
  | none => refuse .range s
  | some p => taken (.page (s.page p).glide (s.page p).entries (s.namings p)) s

/-- PAGE-READ (R103). -/
def execPageRead (d : Dest) (page : Nat) (s : State) : Result := takeRequest 19 false d (pageReadAct page) s

/-! ## The queue (R105, R107, R114, R115) -/

/-- The owner's answer to RECALL: appended, and tested at once where it becomes head. A request out of range that finds two recalls queued meets RANGE and FULL, between which
R105 gives no order; that it is refused RANGE is the model's choice (DESIGN CHOICE, log entry 45). -/
def recallAct (tag page condition count : Nat) (s : State) : Taken :=
  match pageOf page, conditionOf condition count with
  | some p, some c =>
    if 2 ≤ s.recalls.length then refuse .full s
    else
      let head := s.recalls.isEmpty
      let s := { s with recalls := s.recalls ++ ([⟨tag, p, c, none⟩] : List Recall) }
      let started := head && s.startFound .becameHead
      accepted (.recallTaken tag started) ((if started then s.startHead else s).settleRecalls)
  | _, _ => refuse .range s

/-- RECALL (R105). -/
def execRecall (d : Dest) (tag page condition count : Nat) (s : State) : Result :=
  takeRequest 20 false d (recallAct tag page condition count) s

/-- The owner's answer to FIRE. -/
def fireAct (s : State) : Taken :=
  match s.recalls with
  | [] => refuse .nothing s
  | r :: _ =>
    if s.startFound .fire then taken (.recallNamed r.tag r.page) s.startHead.settleRecalls else refuse .nothing s

/-- FIRE (R107). -/
def execFire (d : Dest) (s : State) : Result := takeRequest 21 true d fireAct s

/-- The owner's answer to WITHDRAW: the oldest PENDING recall leaves. -/
def withdrawAct (s : State) : Taken :=
  match s.recalls with
  | [] => refuse .nothing s
  | r :: rest =>
    match r.run, rest with
    | none, _ => taken (.recallNamed r.tag r.page) (({ s with recalls := rest }.startTest .becameHead).settleRecalls)
    | some _, q :: more =>
      if q.run.isNone then taken (.recallNamed q.tag q.page) { s with recalls := r :: more } else refuse .nothing s
    | some _, [] => refuse .nothing s

/-- WITHDRAW (R114). -/
def execWithdraw (d : Dest) (s : State) : Result := takeRequest 22 false d withdrawAct s

/-- The owner's answer to HALT. -/
def haltAct (s : State) : Taken :=
  match s.recalls with
  | [] => refuse .nothing s
  | r :: _ =>
    if r.run.isSome then
      taken (.recallHalted r.tag) (haltEntries (s.page r.page).entries.zipIdx s).settleRecalls
    else refuse .nothing s

/-- HALT (R115). -/
def execHalt (d : Dest) (s : State) : Result := takeRequest 23 true d haltAct s

/-! ## Settings and reading (R116, R117) -/

/-- The owner's answer to RECALL-SET. -/
def recallSetAct (lateness expiry : Nat) (s : State) : Taken :=
  if lateness ≤ 1000 ∧ 500 ≤ expiry ∧ expiry ≤ 10000 then
    taken .none (s.modSettings fun c => { c with lateness := lateness, recallExpiry := expiry })
  else refuse .range s

/-- RECALL-SET (R116). -/
def execRecallSet (d : Dest) (lateness expiry : Nat) (s : State) : Result :=
  takeRequest 24 false d (recallSetAct lateness expiry) s

/-- One entry of a RUNNING recall as RECALL-READ gives it. -/
def State.entrySnapshot (s : State) (e : Entry) (o : Option Outcome) : EntrySnapshot :=
  match o with
  | some o => .resolved e.fader o
  | none => .stillOpen e.fader (s.stateOf e.fader)

/-- One recall as RECALL-READ gives it. -/
def State.recallSnapshot (s : State) (r : Recall) : RecallSnapshot :=
  { tag := r.tag
    page := r.page
    condition := r.condition
    run := r.run.map fun x =>
      { elapsed := wholeMs (s.now - x.start)
        lateness := x.lateness
        expiry := x.expiry
        entries := ((s.page r.page).entries.zip x.outcomes).map fun (e, o) => s.entrySnapshot e o } }

/-- The owner's answer to RECALL-READ. -/
def recallReadAct (s : State) : Taken :=
  taken (.recalls s.settings.lateness s.settings.recallExpiry (s.recalls.map s.recallSnapshot)) s

/-- RECALL-READ (R117). -/
def execRecallRead (d : Dest) (s : State) : Result := takeRequest 25 false d recallReadAct s

end Sys2Proof.Machine
end

