-- ==== Sys2Proof/Machine/Sample.lean ====
section
/-! DEFINITION. The servo sample (R1): the Track Sense Unit, the Motion Generator (R41 to R53), heat, arrival,
calibration and faults at one fader; and the rows that name what a sample brings about. -/

namespace Sys2Proof.Machine

/-! ## The Motion Generator at a sample (R42 to R50) -/

/-- R44: the setpoint along a ramp after the elapsed time, rounded to the nearest step, halves toward the ramp end. -/
def RampItems.setpointAt (r : RampItems) (elapsed : Time) : Nat :=
  let d := halfMs r.duration
  let moved := (2 * dist r.start r.stop * elapsed + d) / (2 * d)
  if r.start ≤ r.stop then r.start + moved else r.start - moved

/-- R44: the ramp and the setpoint advance to the time `now`. -/
def Motion.advance (m : Motion) (now : Time) : Motion :=
  match m.ramp with
  | .running r =>
    if halfMs r.duration ≤ now - r.startTime then { m with setpoint := r.stop, ramp := .ended r }
    else { m with setpoint := r.setpointAt (now - r.startTime) }
  | _ => m

/-- R47: 4 % for each step of error, limited to -100 % and +100 %. -/
def servoDrive (setpoint pos : Nat) : Int := max (-100) (min 100 (4 * ((setpoint : Int) - pos)))

/-- R47: the motor output FDA of a fader, in percent: the drive level where it is positive, and undriven in a state whose
motor column is off (R16, R169; log entry 23). -/
def State.fda (s : State) (f : FaderIx) : Nat :=
  if (s.stateOf f).driven then (s.fader f).motion.drive.toNat else 0

/-- R47: the motor output FDB of a fader, in percent: the magnitude of the drive level where it is negative. -/
def State.fdb (s : State) (f : FaderIx) : Nat :=
  if (s.stateOf f).driven then (-(s.fader f).motion.drive).toNat else 0

/-- R42, R44, R47, R48: the Motion Generator's items after a sample in a state at a position. -/
def Motion.sample (m : Motion) (st : FaderState) (now : Time) (pos : Nat) : Motion :=
  match st with
  | .travel => { m.advance now with drive := servoDrive (m.advance now).setpoint pos, granted := none }
  | .settle => { m.advance now with drive := servoDrive (m.advance now).setpoint pos, granted := none }
  | .calibrating .calDown => { m with setpoint := pos, drive := CalPhase.calDown.drive, granted := none }
  | .calibrating .calUp => { m with setpoint := pos, drive := CalPhase.calUp.drive, granted := none }
  | _ => Motion.at pos

/-- The ramp has run out. -/
def Ramp.isEnded : Ramp → Bool
  | .ended _ => true
  | _ => false

/-- The ramp is running. -/
def Ramp.isRunning : Ramp → Bool
  | .running _ => true
  | _ => false

/-- R49, R50: the test of the arrival window: entry to SETTLE, the settle count, departure to TRAVEL. -/
def State.windowTest (s : State) (f : FaderIx) : State :=
  match s.stateOf f with
  | .travel =>
    if (s.fader f).motion.ramp.isEnded && s.within f (s.targetOf f) then
      (s.goTo f .settle).modMotion f fun m => { m with settleCount := 0 }
    else s
  | .settle =>
    if s.within f (s.targetOf f) then s.modMotion f fun m => { m with settleCount := m.settleCount + 1 }
    else (s.goTo f .travel).modMotion f fun m => { m with settleCount := 0 }
  | _ => s

/-! ## The sample -/

/-- The time of a servo sample: 0.5 ms after the last one at the earliest (R1; log entry 3). -/
def State.sampleTime (s : State) (f : FaderIx) : State :=
  let t := max s.now (s.fader f).track.nextSample
  { s with now := t }.modTrack f fun x => { x with nextSample := t + 3 }

/-- R6, R39, R41: a first sample after RESTART: target, hold target, last reported position and setpoint take its
position, and no position change is raised. Where a claim taken since the RESTART has put the fader into WAITING, TRAVEL
or SETTLE, the first position becomes the target all the same, and R18 acts on it: a moving fader lays a ramp of 0 ms at
the first position (R45) and arrives through SETTLE, and a WAITING one, which no longer needs drive, parks with its claim
resolved as at arrival: the model's choice (log entry 38). R44 ends a ramp of 0 ms at the first sample after it is laid; that
the ramp laid here ends within this same sample, and not at the following one, is the model's choice too (DESIGN CHOICE, log
entry 38). -/
def State.senseFirst (s : State) (f : FaderIx) (raw : Nat) : State :=
  let s := s.modTrack f fun t => t.firstSample (s.config f).calLow (s.config f).calHigh raw
  let s := (s.modRecord f fun r => { r with target := s.posOf f, hold := s.posOf f, lastReported := s.posOf f }).modMotion f
    fun m => { m with setpoint := s.posOf f }
  match s.stateOf f with
  | .waiting => s.arrive f
  | .travel => s.layRamp f (s.posOf f)
  | .settle => (s.goTo f .travel).layRamp f (s.posOf f)
  | _ => s

/-- R2 to R4: an ordinary sample: the reading is classed and mapped; an IN-WINDOW sample ends the track run and TRACK
(R73) before Fader Control takes a position change. -/
def State.senseNext (s : State) (f : FaderIx) (raw : Nat) : State :=
  let old := s.posOf f
  let s := s.modTrack f fun t => t.sample (s.config f).calLow (s.config f).calHigh raw
  let s := if (s.fader f).track.cls = .inWindow ∧ (s.stateOf f).finding = false then
      s.modFault f fun x => { x with trackRun := none, current := { x.current with track := false } }
    else s
  if s.posOf f = old then s else s.positionChange f

/-- R1: the Track Sense Unit's part of a sample. -/
def State.sense (s : State) (f : FaderIx) (raw : BitVec 12) : State :=
  if (s.fader f).track.first then s.senseFirst f raw.toNat else s.senseNext f raw.toNat

/-- R63: a heat window all of whose samples have been taken ends before the next sample, at the present time and not at
the sample's: the model's choice, since R63 gives windows of 10 ms back to back and no sample's place in them (DESIGN CHOICE,
log entry 34). -/
def State.closeFullWindow (s : State) (f : FaderIx) : State :=
  if 20 ≤ (s.fader f).heat.samples then s.windowEnd f else s

/-- A sample as far as the test of the arrival window: position, setpoint, drive, heat, window. The drive level that stands
as the sample's, for heat and for DRIVE-READ, is the one handed on here (R48). That this level is the one reported where the
same event sets the item of R41 to another is the model's choice (DESIGN CHOICE, log entry 42): a sample that itself ends
with the motor off (an arrival, a fault latch, the end of CAL-UP or the time limit of a calibration phase) sets the item to
0 %, and one that ends CAL-DOWN sets it to +35 % (5-10). -/
def State.sampleMotion (s : State) (f : FaderIx) (raw : BitVec 12) : State :=
  let s := ((s.closeFullWindow f).sampleTime f).sense f raw
  let s := s.modMotion f fun m => m.sample (s.stateOf f) s.now (s.posOf f)
  let s := s.modHeat f fun h => h.addSample (s.fader f).motion.drive (s.holdsSlot f)
  s.windowTest f

/-- R50, R51: the settle count has reached 16. -/
def State.arrivalDue (s : State) (f : FaderIx) : Bool :=
  decide (s.stateOf f = .settle) && decide (16 ≤ (s.fader f).motion.settleCount)

/-- Arrival where it is due. -/
def State.arriveIfDue (s : State) (f : FaderIx) : State := if s.arrivalDue f then s.arrive f else s

/-- The rest of a sample: arrival and calibration, then faults; or faults first (log entry 13); a recall that the
sample completes does so at its end (DESIGN CHOICE, log entry 48). -/
def State.sampleEnds (s : State) (f : FaderIx) (active faultsFirst : Bool) : State :=
  let finding := (s.stateOf f).finding
  (if faultsFirst then ((s.monitor f active finding).arriveIfDue f).calSample f
    else ((s.arriveIfDue f).calSample f).monitor f active finding).settleRecalls

/-- R1: a servo sample whole. -/
def State.servoSampleAt (s : State) (f : FaderIx) (raw : BitVec 12) (active : Bool) : State :=
  (s.sampleMotion f raw).sampleEnds f active false

/-- SERVO_SAMPLE (R1). -/
def execServoSample (f : FaderIx) (raw : BitVec 12) (active : Bool) (s : State) : Result :=
  .next (if s.part = .ready then s.servoSampleAt f raw active else s)

/-! ## The rows that name what a sample brings about (log entry 12): where the sample brings it about the whole sample
is taken, and otherwise the row has no effect -/

/-- RAMP_END (R44): the ramp runs out at this sample. -/
def execRampEnd (f : FaderIx) (raw : BitVec 12) (active : Bool) (s : State) : Result :=
  let p := s.sampleMotion f raw
  .next (if s.part = .ready ∧ (s.fader f).motion.ramp.isRunning ∧ (p.fader f).motion.ramp.isEnded then
    p.sampleEnds f active false else s)

/-- ARRIVAL (R51): the settle count reaches 16 at this sample. -/
def execArrival (f : FaderIx) (raw : BitVec 12) (active : Bool) (s : State) : Result :=
  let p := s.sampleMotion f raw
  .next (if s.part = .ready ∧ p.arrivalDue f then p.sampleEnds f active false else s)

/-- CAL_DOWN_STOP (R82): the stop test ends CAL-DOWN at this sample. -/
def execCalDownStop (f : FaderIx) (raw : BitVec 12) (active : Bool) (s : State) : Result :=
  let p := s.sampleMotion f raw
  .next (if s.part = .ready ∧ p.stateOf f = .calibrating .calDown ∧ p.calStopped f then p.sampleEnds f active false
    else s)

/-- CAL_UP_STOP (R83): the stop test ends CAL-UP at this sample. -/
def execCalUpStop (f : FaderIx) (raw : BitVec 12) (active : Bool) (s : State) : Result :=
  let p := s.sampleMotion f raw
  .next (if s.part = .ready ∧ p.stateOf f = .calibrating .calUp ∧ p.calStopped f then p.sampleEnds f active false
    else s)

/-- CAL_PHASE_TIMEOUT (R84): the time of the phase has run out at this sample and no stop is found. -/
def execCalPhaseTimeout (f : FaderIx) (raw : BitVec 12) (active : Bool) (s : State) : Result :=
  let p := s.sampleMotion f raw
  .next (if s.part = .ready ∧ (p.stateOf f).finding ∧ p.calStopped f = false ∧ p.calTimedOut f then
    p.sampleEnds f active false else s)

/-- A sample at which a condition becomes current, faults tested first. -/
def State.conditionSample (s : State) (f : FaderIx) (raw : BitVec 12) (active : Bool) (c : Cond) : State :=
  let t := (s.sampleMotion f raw).sampleEnds f active true
  if s.part = .ready ∧ (s.fader f).fault.current.has c = false ∧ (t.fader f).fault.current.has c then t else s

/-- STALL_CONDITION (R72): STALL becomes current at this sample. -/
def execStallCondition (f : FaderIx) (raw : BitVec 12) (active : Bool) (s : State) : Result :=
  .next (s.conditionSample f raw active .stall)

/-- TRACK_CONDITION (R73): TRACK becomes current at this sample. -/
def execTrackCondition (f : FaderIx) (raw : BitVec 12) (active : Bool) (s : State) : Result :=
  .next (s.conditionSample f raw active .track)

/-- OVERCURRENT_CONDITION (R74): OVERCURRENT becomes current at this sample. -/
def execOvercurrentCondition (f : FaderIx) (raw : BitVec 12) (active : Bool) (s : State) : Result :=
  .next (s.conditionSample f raw active .overcurrent)

/-- RECALL_EXPIRY (R110): the expiry of the open entry whose claim the fader holds, at its time or the present one. -/
def execRecallExpiry (f : FaderIx) (s : State) : Result :=
  .next (match s.claimOf f, (s.fader f).record.expiry with
    | .recall _ _, some t =>
      if s.part = .ready then ({ s with now := max s.now t }.endClaim f .expired).settleRecalls else s
    | _, _ => s)

end Sys2Proof.Machine
end

