-- ==== Sys2Proof/Machine/Wire.lean ====
section
/-! DEFINITION. The bytes on the line (R155 to R161): payload forms of Table 10-9, the judging of a valid frame by its
address and kind, the receiver byte by byte, duplicate addresses, and the reply's start and end. -/

namespace Sys2Proof.Machine

/-! ## Payload fields (10-8) -/

/-- A two-byte number, least significant byte first. -/
def le2 (a b : Byte) : Nat := a.toNat + 256 * b.toNat

/-- A three-byte number. -/
def le3 (a b c : Byte) : Nat := a.toNat + 256 * b.toNat + 65536 * c.toNat

/-- A set of faders. -/
def set16 (a b : Byte) : BitVec 16 := BitVec.ofNat 16 (le2 a b)

/-- A set of meters. -/
def set32 (a b c e : Byte) : BitVec 32 := BitVec.ofNat 32 (le2 a b + 65536 * le2 c e)

/-- A setting with its presence bit. -/
def present (p : Byte) (i v : Nat) : Option Nat := if p.getLsbD i then some v else none

/-- The entries of a PAGE-LOAD payload: five bytes each. -/
def entriesWire : List Byte → Option (List EntryOperand)
  | [] => some []
  | f :: t0 :: t1 :: g0 :: g1 :: rest => (entriesWire rest).map (⟨f.toNat, le2 t0 t1, optionalGlide (le2 g0 g1)⟩ :: ·)
  | _ => none

/-- The points of a POINTS payload: six bytes each. -/
def pointsWire : List Byte → Option (List PointOperand)
  | [] => some []
  | a :: b :: c :: p0 :: p1 :: sh :: rest => (pointsWire rest).map (⟨le3 a b c, le2 p0 p1, sh.toNat⟩ :: ·)
  | _ => none

/-- The entries of a LEVELS payload: three bytes each. -/
def levelsWire : List Byte → Option (List LevelOperand)
  | [] => some []
  | m :: l :: c :: rest => (levelsWire rest).map (⟨m.toNat, l.toNat, c.toNat⟩ :: ·)
  | _ => none

/-! ## Kinds (R157, Tables 10-4 and 10-9) -/

/-- A request kind as its code and payload are judged: whether it may be broadcast, and what its owner does. -/
structure Judged where
  capable : Bool
  act : State → Taken

/-- A payload whose length does not fit the kind's form. -/
def badLength : Judged := ⟨false, refuse .badLength⟩

/-- A request that is addressed only. -/
def single (act : State → Taken) : Judged := ⟨false, act⟩

/-- A request whose payload is one byte. -/
def oneByte (payload : List Byte) (act : Nat → State → Taken) : Judged :=
  match payload with
  | [a] => single (act a.toNat)
  | _ => badLength

/-- A request with no payload. -/
def noPayload (payload : List Byte) (j : Judged) : Judged :=
  match payload with
  | [] => j
  | _ => badLength

/-- Kinds 1-14. Bit 7 of FADER-SET's presence byte names no setting (Table 10-9) and is passed over: the model's choice (log
entry 10). -/
def judgeFader (kind : Nat) (payload : List Byte) : Judged :=
  match kind, payload with
  | 1, [f, t0, t1, g0, g1] => single (moveAct f.toNat (le2 t0 t1) (le2 g0 g1))
  | 2, p => oneByte p stopAct
  | 3, [f, g0, g1] => single (nullAct f.toNat (le2 g0 g1))
  | 4, p => oneByte p teachAct
  | 5, [s0, s1, p, r, te, aw, hw, sl, rs, d0, d1] =>
    single (faderSetAct (set16 s0 s1)
      ⟨present p 0 r.toNat, present p 1 te.toNat, present p 2 aw.toNat, present p 3 hw.toNat, present p 4 sl.toNat,
        present p 5 rs.toNat, present p 6 (le2 d0 d1)⟩)
  | 6, p => oneByte p faderReadAct
  | 7, [s0, s1, w] => single (watchSetAct (set16 s0 s1) w.toNat)
  | 8, [f, c] => single (faultClearAct f.toNat c.toNat)
  | 9, [s0, s1] => single (calibrateAct (set16 s0 s1))
  | 10, p => oneByte p calAcceptAct
  | 11, p => oneByte p calRejectAct
  | 12, p => oneByte p budgetSetAct
  | 13, [t0, t1, r0, r1] => single (heatSetAct (le2 t0 t1) (le2 r0 r1))
  | 14, p => noPayload p (single driveReadAct)
  | _, _ => badLength

/-- Kinds 15-25. -/
def judgeRecall (kind : Nat) (payload : List Byte) : Judged :=
  match kind, payload with
  | 15, [g, m, s0, s1] => single (groupFormAct g.toNat m.toNat (set16 s0 s1))
  | 16, p => oneByte p groupDissolveAct
  | 17, p => oneByte p groupReadAct
  | 18, p :: g0 :: g1 :: rest =>
    match entriesWire rest with
    | some l => single (pageLoadAct p.toNat (le2 g0 g1) l)
    | none => badLength
  | 19, p => oneByte p pageReadAct
  | 20, [t, p, c, c0, c1, c2] => single (recallAct t.toNat p.toNat c.toNat (le3 c0 c1 c2))
  | 21, p => noPayload p ⟨true, fireAct⟩
  | 22, p => noPayload p (single withdrawAct)
  | 23, p => noPayload p ⟨true, haltAct⟩
  | 24, [l0, l1, e0, e1] => single (recallSetAct (le2 l0 l1) (le2 e0 e1))
  | 25, p => noPayload p (single recallReadAct)
  | _, _ => badLength

/-- Kinds 26-32. -/
def judgeTimeline (kind : Nat) (payload : List Byte) : Judged :=
  match kind, payload with
  | 26, [a, b, c] => ⟨true, timeSetAct (le3 a b c)⟩
  | 27, [t] => ⟨true, transportAct t.toNat⟩
  | 28, [x, r] => single (timeSourceAct x.toNat r.toNat)
  | 29, [f, g0, g1] => single (laneEnableAct f.toNat (optionalGlide (le2 g0 g1)))
  | 30, p => oneByte p laneDisableAct
  | 31, f :: rest =>
    match pointsWire rest with
    | some l => single (pointsAct f.toNat l)
    | none => badLength
  | 32, p => oneByte p laneReadAct
  | _, _ => badLength

/-- Kinds 33-43. -/
def judgePart (d : Dest) (kind : Nat) (payload : List Byte) : Judged :=
  match kind, payload with
  | 33, [s0, s1, s2, s3, p, mo, so, ta, fa, h0, h1, o0, o1, th, li] =>
    single (meterSetAct (set32 s0 s1 s2 s3)
      ⟨present p 0 mo.toNat, present p 1 so.toNat, present p 2 ta.toNat, present p 3 fa.toNat, present p 4 (le2 h0 h1),
        present p 5 (le2 o0 o1), present p 6 th.toNat, present p 7 li.toNat⟩)
  | 34, t :: rest =>
    if rest.length = 40 then single (scaleLoadAct t.toNat (Vector.ofFn fun i => (rest.getD i.val 0#8).toNat))
    else badLength
  | 35, p =>
    match levelsWire p with
    | some l => single (levelsAct l)
    | none => badLength
  | 36, [s0, s1, s2, s3] => ⟨true, holdClearAct (set32 s0 s1 s2 s3)⟩
  | 37, [b] => ⟨true, brightnessAct b.toNat⟩
  | 38, p => oneByte p streamSetAct
  | 39, [t0, t1, r] => ⟨true, linkSetAct d (le2 t0 t1) r.toNat⟩
  | 40, p => oneByte p collectAct
  | 41, p => noPayload p (single identifyAct)
  | 42, p => noPayload p (single storeAct)
  | 43, p => noPayload p ⟨true, restartAct⟩
  | _, _ => badLength

/-- R157: a request judged by its kind: no kind, a length that does not fit, or the kind's owner. -/
def judge (d : Dest) (kind : Nat) (payload : List Byte) : Judged :=
  if kind = 0 ∨ 43 < kind then ⟨false, refuse .unknownKind⟩
  else if kind ≤ 14 then judgeFader kind payload
  else if kind ≤ 25 then judgeRecall kind payload
  else if kind ≤ 32 then judgeTimeline kind payload
  else judgePart d kind payload

/-- A valid request frame judged and taken (R157, R158, R160). -/
def State.takeJudged (s : State) (d : Dest) (kind : Byte) (payload : List Byte) : State :=
  s.takeValid kind.toNat (judge d kind.toNat payload).capable d (judge d kind.toNat payload).act

/-! ## Valid frames by their address byte (R157, R161) -/

/-- R161: another part answers at this address. -/
def State.duplicateHeard (s : State) : State :=
  ({ s with link := { s.link with duplicate := true } }.raise (.link .duplicate false)).waitIdle

/-- R157: a valid frame judged by its address byte. -/
def State.takeFrame (s : State) (address kind : Byte) (payload : List Byte) : State :=
  if address.toNat = s.link.address then s.takeJudged .addressed kind payload
  else if address.toNat = 31 then s.takeJudged .broadcast kind payload
  else if address.toNat = 128 + s.link.address then s.duplicateHeard
  else s.waitIdle

/-- UNKNOWN_KIND (R157): a valid request frame, judged by its kind and length. -/
def execUnknownKind (d : Dest) (kind : Byte) (payload : List Byte) (s : State) : Result :=
  .next (if s.hears then s.takeJudged d kind payload else s)

/-- BAD_CHECK_FRAME (R156): a complete frame whose check value differs is discarded. -/
def execBadCheckFrame (s : State) : Result := .next (if s.hears then s.waitIdle else s)

/-- FOREIGN_FRAME (R157): a valid frame, judged by its address byte. -/
def execForeignFrame (address kind : Byte) (payload : List Byte) (s : State) : Result :=
  .next (if s.hears then s.takeFrame address kind payload else s)

/-- DUPLICATE_ADDRESS_REPLY (R161). -/
def execDuplicateAddressReply (s : State) : Result := .next (if s.hears then s.duplicateHeard else s)

/-! ## The receiver byte by byte (R155, R156) -/

/-- R156: a complete frame is checked; a valid one is taken. -/
def State.frameComplete (s : State) (bytes : List Byte) (len : Nat) : State :=
  if checkBytes (crc (bytes.take (len + 3))) = (bytes.drop (len + 3)).take 2 then
    s.takeFrame (bytes.getD 0 0#8) (bytes.getD 1 0#8) ((bytes.drop 3).take len)
  else s.waitIdle

/-- R155: the bytes gathered so far: abandoned for a length above 128, complete at the second check byte, or still
incomplete. -/
def State.gathered (s : State) (bytes : List Byte) : State :=
  match bytes with
  | _ :: _ :: l :: _ =>
    if 128 < l.toNat then s.waitIdle
    else if l.toNat + 5 ≤ bytes.length then s.frameComplete bytes l.toNat
    else { s with link := { s.link with receiver := .inFrame, bytes := bytes } }
  | _ => { s with link := { s.link with receiver := .inFrame, bytes := bytes } }

/-- R155: a byte arrives. -/
def State.byteArrives (s : State) (byte : Byte) (stopLow : Bool) : State :=
  match s.link.receiver with
  | .waitIdle => s
  | .replying => s
  | .ready => if stopLow then s.waitIdle else s.gathered [byte]
  | .inFrame => if stopLow then s.waitIdle else s.gathered (s.link.bytes ++ [byte])

/-- BYTE_ARRIVAL (R155). -/
def execByteArrival (byte : Byte) (stopLow : Bool) (s : State) : Result :=
  .next (if s.part = .ready then s.byteArrives byte stopLow else s)

/-- FRAME_OPENING_IDLE (R155): the line has been idle for four byte times in WAIT-IDLE. -/
def execFrameOpeningIdle (s : State) : Result :=
  .next (if s.part = .ready ∧ s.link.receiver = .waitIdle then
    { s with link := { s.link with receiver := .ready, bytes := [] } } else s)

/-- FRAME_GAP_ABANDON (R155): the line has been idle for more than two byte times within a frame. -/
def execFrameGapAbandon (s : State) : Result :=
  .next (if s.part = .ready ∧ s.link.receiver = .inFrame then s.waitIdle else s)

/-! ## The reply (R158, R162) -/

/-- REPLY_START (R158): DIR is raised for the reply's first byte. -/
def execReplyStart (s : State) : Result :=
  .next (if s.part = .ready ∧ s.link.receiver = .replying ∧ s.link.dir = false then
    { s with link := { s.link with dir := true } } else s)

/-- REPLY_END (R158, R162): DIR is lowered, the receiver enters WAIT-IDLE, and the rate last set is in force. -/
def execReplyEnd (s : State) : Result :=
  .next (if s.part = .ready ∧ s.link.receiver = .replying ∧ s.link.dir = true then
    { s with link := { s.link with
        dir := false
        receiver := .waitIdle
        bytes := []
        reply := none
        rate := s.settings.linkRate } }
    else s)

end Sys2Proof.Machine
end

