-- ==== Sys2Proof/Machine/Dispatch.lean ====
section
/-! DEFINITION. One arm per command: the meaning it calls. -/

namespace Sys2Proof.Machine

def exec (i : Instr) (s : State) : Host.Outcome State Fault Refusal :=
  match i with
  | .move d fader target glide => Sys2Proof.Machine.execMove d fader target glide s
  | .null d fader glide => Sys2Proof.Machine.execNull d fader glide s
  | .stop d fader => Sys2Proof.Machine.execStop d fader s
  | .teach d fader => Sys2Proof.Machine.execTeach d fader s
  | .faderSet d faders settings => Sys2Proof.Machine.execFaderSet d faders settings s
  | .faderRead d fader => Sys2Proof.Machine.execFaderRead d fader s
  | .watchSet d faders watch => Sys2Proof.Machine.execWatchSet d faders watch s
  | .faultClear d fader conditions => Sys2Proof.Machine.execFaultClear d fader conditions s
  | .calibrate d faders => Sys2Proof.Machine.execCalibrate d faders s
  | .calAccept d fader => Sys2Proof.Machine.execCalAccept d fader s
  | .calReject d fader => Sys2Proof.Machine.execCalReject d fader s
  | .budgetSet d budget => Sys2Proof.Machine.execBudgetSet d budget s
  | .heatSet d trip resume => Sys2Proof.Machine.execHeatSet d trip resume s
  | .driveRead d => Sys2Proof.Machine.execDriveRead d s
  | .groupForm d group master members => Sys2Proof.Machine.execGroupForm d group master members s
  | .groupDissolve d group => Sys2Proof.Machine.execGroupDissolve d group s
  | .groupRead d group => Sys2Proof.Machine.execGroupRead d group s
  | .pageLoad d page glide entries => Sys2Proof.Machine.execPageLoad d page glide entries s
  | .pageRead d page => Sys2Proof.Machine.execPageRead d page s
  | .recall d tag page condition count => Sys2Proof.Machine.execRecall d tag page condition count s
  | .fire d => Sys2Proof.Machine.execFire d s
  | .withdraw d => Sys2Proof.Machine.execWithdraw d s
  | .halt d => Sys2Proof.Machine.execHalt d s
  | .recallSet d lateness expiry => Sys2Proof.Machine.execRecallSet d lateness expiry s
  | .recallRead d => Sys2Proof.Machine.execRecallRead d s
  | .timeSet d count => Sys2Proof.Machine.execTimeSet d count s
  | .transport d value => Sys2Proof.Machine.execTransport d value s
  | .timeSource d source rate => Sys2Proof.Machine.execTimeSource d source rate s
  | .laneEnable d fader chase => Sys2Proof.Machine.execLaneEnable d fader chase s
  | .laneDisable d fader => Sys2Proof.Machine.execLaneDisable d fader s
  | .points d fader list => Sys2Proof.Machine.execPoints d fader list s
  | .laneRead d fader => Sys2Proof.Machine.execLaneRead d fader s
  | .meterSet d meters settings => Sys2Proof.Machine.execMeterSet d meters settings s
  | .scaleLoad d table thresholds => Sys2Proof.Machine.execScaleLoad d table thresholds s
  | .levels d list => Sys2Proof.Machine.execLevels d list s
  | .holdClear d meters => Sys2Proof.Machine.execHoldClear d meters s
  | .brightness d value => Sys2Proof.Machine.execBrightness d value s
  | .streamSet d base => Sys2Proof.Machine.execStreamSet d base s
  | .linkSet d timeout rate => Sys2Proof.Machine.execLinkSet d timeout rate s
  | .collect d maximum => Sys2Proof.Machine.execCollect d maximum s
  | .identify d => Sys2Proof.Machine.execIdentify d s
  | .store d => Sys2Proof.Machine.execStore d s
  | .restart d => Sys2Proof.Machine.execRestart d s
  | .unknownKind d kind payload => Sys2Proof.Machine.execUnknownKind d kind payload s
  | .badCheckFrame => Sys2Proof.Machine.execBadCheckFrame s
  | .foreignFrame address kind payload => Sys2Proof.Machine.execForeignFrame address kind payload s
  | .duplicateAddressReply => Sys2Proof.Machine.execDuplicateAddressReply s
  | .frameOpeningIdle => Sys2Proof.Machine.execFrameOpeningIdle s
  | .frameGapAbandon => Sys2Proof.Machine.execFrameGapAbandon s
  | .replyStart => Sys2Proof.Machine.execReplyStart s
  | .replyEnd => Sys2Proof.Machine.execReplyEnd s
  | .linkLost => Sys2Proof.Machine.execLinkLost s
  | .chipReset => Sys2Proof.Machine.execChipReset s
  | .resetRelease addr1 addr0 raws => Sys2Proof.Machine.execResetRelease addr1 addr0 raws s
  | .partReady => Sys2Proof.Machine.execPartReady s
  | .servoSample fader raw faultActive => Sys2Proof.Machine.execServoSample fader raw faultActive s
  | .rampEnd fader raw faultActive => Sys2Proof.Machine.execRampEnd fader raw faultActive s
  | .arrival fader raw faultActive => Sys2Proof.Machine.execArrival fader raw faultActive s
  | .touchSample fader present => Sys2Proof.Machine.execTouchSample fader present s
  | .touchOn fader => Sys2Proof.Machine.execTouchOn fader s
  | .touchOff fader => Sys2Proof.Machine.execTouchOff fader s
  | .stallCondition fader raw faultActive => Sys2Proof.Machine.execStallCondition fader raw faultActive s
  | .trackCondition fader raw faultActive => Sys2Proof.Machine.execTrackCondition fader raw faultActive s
  | .overcurrentCondition fader raw faultActive => Sys2Proof.Machine.execOvercurrentCondition fader raw faultActive s
  | .heatWindowEnd fader => Sys2Proof.Machine.execHeatWindowEnd fader s
  | .calDownStop fader raw faultActive => Sys2Proof.Machine.execCalDownStop fader raw faultActive s
  | .calUpStop fader raw faultActive => Sys2Proof.Machine.execCalUpStop fader raw faultActive s
  | .calPhaseTimeout fader raw faultActive => Sys2Proof.Machine.execCalPhaseTimeout fader raw faultActive s
  | .recallExpiry fader => Sys2Proof.Machine.execRecallExpiry fader s
  | .framePulse => Sys2Proof.Machine.execFramePulse s
  | .internalFrameEvent => Sys2Proof.Machine.execInternalFrameEvent s
  | .syncLoss => Sys2Proof.Machine.execSyncLoss s
  | .displayFrame => Sys2Proof.Machine.execDisplayFrame s
  | .holdExpiry meter => Sys2Proof.Machine.execHoldExpiry meter s
  | .lampExpiry meter => Sys2Proof.Machine.execLampExpiry meter s
  | .scanFrameStart => Sys2Proof.Machine.execScanFrameStart s
  | .levelStreamFrame bits => Sys2Proof.Machine.execLevelStreamFrame bits s
  | .streamLoss => Sys2Proof.Machine.execStreamLoss s
  | .storeEnd differs => Sys2Proof.Machine.execStoreEnd differs s
  | .byteArrival byte stopLow => Sys2Proof.Machine.execByteArrival byte stopLow s

end Sys2Proof.Machine
end

