-- ==== Sys2Proof/Machine/Step.lean ====
section
/-! DEFINITION. One step: the command at the front of the queue is taken; an empty queue lets one tick of the clock
pass. -/

namespace Sys2Proof.Machine

/-- An idle step: one tick of the clock, a sixth of a millisecond (log entry 2). -/
def State.tick (s : State) : State := { s with now := s.now + 1 }

/-- One step: `exec` on the front command with the rest of the queue, or a tick. -/
def step (s : State) : Host.Outcome State Fault Refusal :=
  match s.pending with
  | [] => .next s.tick
  | c :: rest => exec c { s with pending := rest }

/-- The command a word spells put at the front of the queue; the state unchanged where it spells none, which is every
word (log entry 17). -/
def State.withFetchWord (s : State) (nbits w : Nat) : State :=
  match decodeTableWord nbits w with
  | some c => { s with pending := c :: s.pending }
  | none => s

end Sys2Proof.Machine
end

