-- ==== Sys2Proof/Safety.lean ====
section
/-! DEFINITION. What the claims are stated in: the part of a state that Fader Control never touches, what a request
leaves on the line, and the invariants of the spec that hold between any two commands. -/

namespace Sys2Proof.Machine

/-! ## Frames -/

/-- The sensed items of a fader: Track Sense, Touch Sense and heat; the rest as at reset. -/
def Fader.senses (x : Fader) : Fader := { Fader.reset with track := x.track, touch := x.touch, heat := x.heat }

/-- What Fader Control, the Group Follower, the Recall Engine's hand-over and the lanes leave alone: everything but fader
records, motion, fault, calibration and lane items, the admission queue, groups, recalls and notices. -/
def State.base (s : State) : State :=
  { s with
    faders := s.faders.map Fader.senses
    queue := []
    groups := Vector.replicate 4 none
    recalls := []
    notices := [] }

/-- The state a request of kind `kind` leaves where its owner leaves `t` (R158): an addressed one has its reply waiting, at
the rate in force when `s` took it; a broadcast one leaves the receiver in WAIT-IDLE. -/
def State.closed (s t : State) (d : Dest) (kind : Nat) (status : Status) (data : ReplyData) : State :=
  match d with
  | .addressed => t.answer kind s.link.rate status data
  | .broadcast => t.waitIdle

/-! ## Invariants -/

/-- R163: no two pending notices with the same key. -/
def State.noticesDistinct (s : State) : Prop := (s.notices.map Notice.key).Nodup

/-- R11: a capture list holds at most two captures. -/
def State.capturesBounded (s : State) : Prop := ∀ f, (s.fader f).touch.captures.length ≤ 2

/-- R104: at most two recalls, and only the oldest is ever RUNNING. -/
def State.recallsInForm (s : State) : Prop := s.recalls.length ≤ 2 ∧ ∀ r ∈ s.recalls.tail, r.run = none

/-- R112: a RUNNING recall has an open entry. -/
def State.recallsOpen (s : State) : Prop :=
  ∀ r ∈ s.recalls, ∀ run, r.run = some run → none ∈ run.outcomes

/-- R59: the admission queue holds exactly the faders in WAITING or CAL-WAIT, each once. -/
def State.queueExact (s : State) : Prop := s.queue.Nodup ∧ ∀ f, f ∈ s.queue ↔ (s.stateOf f).queued = true

/-- R60: no slot is free while a fader waits. -/
def State.poolSettled (s : State) : Prop := s.queue = [] ∨ s.settings.budget ≤ s.holders.length

/-- R16, R42: a fader in a state that is not driven has no ramp, drive level 0 % and settle count 0. -/
def State.motorsOff (s : State) : Prop :=
  ∀ f, (s.stateOf f).driven = false →
    (s.fader f).motion.ramp = .none ∧ (s.fader f).motion.drive = 0 ∧ (s.fader f).motion.settleCount = 0

/-- The claims a fader may hold in a state: NONE in FAULTED and CALIBRATING (R36, R76, R81), NONE or a suspended LANE in
TOUCHED (R22), no suspended LANE elsewhere, and no DIRECT or RECALL claim in PARKED, where it would have ended (R19, R52). -/
def Claim.fits (c : Claim) (st : FaderState) : Prop :=
  match st with
  | .faulted => c = .none
  | .calibrating _ => c = .none
  | .touched => c = .none ∨ c = .lane true
  | .parked => c ≠ .lane true ∧ c ≠ .direct ∧ c.isRecall = false
  | _ => c ≠ .lane true

/-- R20: a fader holds a LANE claim exactly when its lane is enabled, and its claim fits its state. -/
def State.claimsFit (s : State) : Prop :=
  ∀ f, (s.claimOf f).isLane = (s.fader f).lane.enabled ∧ (s.claimOf f).fits (s.stateOf f)

/-- The times rise strictly and each lies after `t`. -/
def risingAfter (t : Nat) (l : List Point) : Prop :=
  List.Pairwise (· < ·) (l.map (·.time)) ∧ ∀ p ∈ l, t < p.time

/-- R128 to R130, at a Timeline count: at most sixteen points, of rising times after the count; a segment ends at the head
of the queue and began at or before the count; a starved lane holds a value and no point; positions are steps. -/
def Lane.inForm (l : Lane) (count : Nat) : Prop :=
  l.queue.length ≤ 16 ∧ risingAfter count l.queue ∧ (∀ p ∈ l.queue, p.pos ≤ 1023) ∧
    (∀ v, l.value = some v → v ≤ 1023) ∧ (∀ t, l.lastTime = some t → t ≤ count) ∧
    (∀ g, l.segment = some g → g.fromPos ≤ 1023 ∧ g.fromTime ≤ count ∧
      ∃ q rest, l.queue = q :: rest ∧ g.toTime = q.time ∧ g.toPos = q.pos) ∧
    (l.starved = true → l.queue = [] ∧ l.value.isSome = true ∧ l.segment = none)

/-- Every lane is in form at the count in force. -/
def State.lanesInForm (s : State) : Prop := ∀ f, (s.fader f).lane.inForm s.timeline.count

/-- The position and target items of one fader lie in 0-1023 (R4, R18, R44). -/
def Fader.inRange (x : Fader) : Prop :=
  x.track.pos ≤ 1023 ∧ x.track.lastValid ≤ 1023 ∧ x.record.target ≤ 1023 ∧ x.record.hold ≤ 1023 ∧
    x.motion.setpoint ≤ 1023 ∧
    ∀ r, x.motion.ramp = .running r ∨ x.motion.ramp = .ended r → r.start ≤ 1023 ∧ r.stop ≤ 1023

/-- The detents of a set of settings lie in 0-1023. -/
def Settings.detentsInRange (c : Settings) : Prop := ∀ f : FaderIx, c.faders[f.val].detent ≤ 1023

/-- R18, R101: every target, hold target, setpoint, position, detent and page target lies in 0-1023. -/
def State.positionsInRange (s : State) : Prop :=
  (∀ f, (s.fader f).inRange) ∧ s.settings.detentsInRange ∧ s.stored.contents.detentsInRange ∧
    (∀ c, s.storing = some c → c.detentsInRange) ∧ ∀ p, ∀ e ∈ (s.page p).entries, e.target ≤ 1023

/-- R63, R47: heat lies in 0-4095 and the drive level in -100 % to 100 %. -/
def State.heatInRange (s : State) : Prop :=
  ∀ f, s.heatOf f ≤ 4095 ∧ (s.fader f).motion.drive.natAbs ≤ 100 ∧ (s.fader f).heat.lastDrive.natAbs ≤ 100

/-- A calibration low and high: raw readings of twelve bits, at least the minimum span of 2400 counts apart (R83). -/
def calInRange (low high : Nat) : Prop := low + 2400 ≤ high ∧ high ≤ 4095

/-- The ranges of one fader's settings (R34, R83). -/
def FaderSettings.inRange (c : FaderSettings) : Prop :=
  (1 ≤ c.arrivalWindow ∧ c.arrivalWindow ≤ 8) ∧ (3 ≤ c.holdWindow ∧ c.holdWindow ≤ 32) ∧
    (1 ≤ c.speedLimit ∧ c.speedLimit ≤ 8) ∧ (1 ≤ c.reportStep ∧ c.reportStep ≤ 16) ∧ c.detent ≤ 1023 ∧
    calInRange c.calLow c.calHigh

/-- The ranges of one meter's settings (R140). -/
def MeterSettings.inRange (c : MeterSettings) : Prop :=
  (1 ≤ c.fallInterval ∧ c.fallInterval ≤ 64) ∧ c.threshold ≤ 255 ∧
    (∀ t, c.holdTime = some t → t ≤ 10000 ∧ t % 50 = 0) ∧ (∀ t, c.overloadHold = some t → t ≤ 10000 ∧ t % 5 = 0)

/-- A scale table: thresholds of 0-255, strictly falling from segment 1 to segment 40 (R148). -/
def scaleInForm (v : Vector Nat 40) : Prop := (∀ n ∈ v.toList, n ≤ 255) ∧ v.toList.Pairwise (· > ·)

/-- The ranges of Table 12-1 (R34, R62, R69, R116, R140, R148, R150, R152, R162). -/
def Settings.inRange (c : Settings) : Prop :=
  (c.linkTimeout = 0 ∨ 100 ≤ c.linkTimeout ∧ c.linkTimeout ≤ 5000 ∧ c.linkTimeout % 100 = 0) ∧
    (∀ f : FaderIx, c.faders[f.val].inRange) ∧ (1 ≤ c.budget ∧ c.budget ≤ 16) ∧
    (500 ≤ c.heatTrip ∧ c.heatTrip ≤ 4095 ∧ c.heatResume + 100 ≤ c.heatTrip) ∧
    c.lateness ≤ 1000 ∧ (500 ≤ c.recallExpiry ∧ c.recallExpiry ≤ 10000) ∧ c.baseSlot ≤ 32 ∧
    (∀ m : MeterIx, c.meters[m.val].inRange) ∧ c.brightness ≤ 15 ∧ scaleInForm c.scaleA ∧ scaleInForm c.scaleB

/-- The working settings, the stored profile and a snapshot being written are in range. -/
def State.settingsInRange (s : State) : Prop :=
  s.settings.inRange ∧ s.stored.contents.inRange ∧ ∀ c, s.storing = some c → c.inRange

/-- R1, R82, R83: raw readings and captured readings are of twelve bits, and a pending calibration result may come into
force. -/
def State.calibrationsInRange (s : State) : Prop :=
  ∀ f, (s.fader f).track.raw ≤ 4095 ∧
    (∀ c, (s.fader f).cal = some c → (∀ n, c.low = some n → n ≤ 4095) ∧ ∀ n, c.high = some n → n ≤ 4095) ∧
    ∀ c, (s.fader f).record.pendingCal = some c → calInRange c.low c.high ∧ c.span = (c.high : Int) - c.low

/-- R90, R91: no fader has two group roles: within a group the master is no member and the members, one or more, stand in
fader order, each once; and two groups name no fader in common. -/
def State.groupsDisjoint (s : State) : Prop :=
  (∀ g r, s.group g = some r → (r.master :: r.members.map (·.fader)).Nodup ∧ r.members ≠ [] ∧
    (r.members.map (·.fader)).Pairwise (· < ·)) ∧
    ∀ g g' r r', g ≠ g' → s.group g = some r → s.group g' = some r' →
      ∀ f ∈ r.master :: r.members.map (·.fader), f ∉ r'.master :: r'.members.map (·.fader)

/-- R94: a group leads exactly while its master is in TOUCHED, or in WAITING, TRAVEL or SETTLE with a DIRECT claim. -/
def State.leadsTrue (s : State) : Prop := ∀ g r, s.group g = some r → r.leading = s.meetsLead r.master

/-- R141, R144, R145, R149: the levels of one meter lie in 0-255 (0 the loudest), its hold is at least as loud as its bar,
and its image lies in forty segments. -/
def Meter.inRange (x : Meter) : Prop :=
  x.acc ≤ 255 ∧ x.bar ≤ 255 ∧ x.hold ≤ x.bar ∧ x.shown.segments ≤ 40 ∧ x.shown.dot ≤ 40

/-- Every meter is in range. -/
def State.metersInRange (s : State) : Prop := ∀ m, (s.meter m).inRange

/-- R139: while the part is READY the two meters of a LINKED pair share hold, hold state, hold elapsed, lamp and lamp
elapsed. -/
def State.pairsShared (s : State) : Prop :=
  s.part = .ready → ∀ m, s.linked m = true →
    (s.meter (lower m)).holdItems = (s.meter (upper m)).holdItems ∧
      (s.meter (lower m)).lampItems = (s.meter (upper m)).lampItems

/-- R121: the Timeline count lies in 0-16,777,215. -/
def State.countInRange (s : State) : Prop := s.timeline.count ≤ maxCount

/-- Every step that answers a next state keeps `P`. -/
def Kept (P : State → Prop) : Prop := ∀ s t, P s → step s = .next t → P t

end Sys2Proof.Machine

namespace Sys2Proof

/-- How a request row is addressed; an event row is no frame. -/
def Instr.dest : Instr → Option Dest
  | .move d _ _ _ => some d
  | .stop d _ => some d
  | .null d _ _ => some d
  | .teach d _ => some d
  | .faderSet d _ _ => some d
  | .faderRead d _ => some d
  | .watchSet d _ _ => some d
  | .faultClear d _ _ => some d
  | .calibrate d _ => some d
  | .calAccept d _ => some d
  | .calReject d _ => some d
  | .budgetSet d _ => some d
  | .heatSet d _ _ => some d
  | .driveRead d => some d
  | .groupForm d _ _ _ => some d
  | .groupDissolve d _ => some d
  | .groupRead d _ => some d
  | .pageLoad d _ _ _ => some d
  | .pageRead d _ => some d
  | .recall d _ _ _ _ => some d
  | .fire d => some d
  | .withdraw d => some d
  | .halt d => some d
  | .recallSet d _ _ => some d
  | .recallRead d => some d
  | .timeSet d _ => some d
  | .transport d _ => some d
  | .timeSource d _ _ => some d
  | .laneEnable d _ _ => some d
  | .laneDisable d _ => some d
  | .points d _ _ => some d
  | .laneRead d _ => some d
  | .meterSet d _ _ => some d
  | .scaleLoad d _ _ => some d
  | .levels d _ => some d
  | .holdClear d _ => some d
  | .brightness d _ => some d
  | .streamSet d _ => some d
  | .linkSet d _ _ => some d
  | .collect d _ => some d
  | .identify d => some d
  | .store d => some d
  | .restart d => some d
  | .unknownKind d _ _ => some d
  | _ => none

/-- The kind code of a request row (Table 10-4). -/
def Instr.kind : Instr → Option Nat
  | .move _ _ _ _ => some 1
  | .stop _ _ => some 2
  | .null _ _ _ => some 3
  | .teach _ _ => some 4
  | .faderSet _ _ _ => some 5
  | .faderRead _ _ => some 6
  | .watchSet _ _ _ => some 7
  | .faultClear _ _ _ => some 8
  | .calibrate _ _ => some 9
  | .calAccept _ _ => some 10
  | .calReject _ _ => some 11
  | .budgetSet _ _ => some 12
  | .heatSet _ _ _ => some 13
  | .driveRead _ => some 14
  | .groupForm _ _ _ _ => some 15
  | .groupDissolve _ _ => some 16
  | .groupRead _ _ => some 17
  | .pageLoad _ _ _ _ => some 18
  | .pageRead _ _ => some 19
  | .recall _ _ _ _ _ => some 20
  | .fire _ => some 21
  | .withdraw _ => some 22
  | .halt _ => some 23
  | .recallSet _ _ _ => some 24
  | .recallRead _ => some 25
  | .timeSet _ _ => some 26
  | .transport _ _ => some 27
  | .timeSource _ _ _ => some 28
  | .laneEnable _ _ _ => some 29
  | .laneDisable _ _ => some 30
  | .points _ _ _ => some 31
  | .laneRead _ _ => some 32
  | .meterSet _ _ _ => some 33
  | .scaleLoad _ _ _ => some 34
  | .levels _ _ => some 35
  | .holdClear _ _ => some 36
  | .brightness _ _ => some 37
  | .streamSet _ _ => some 38
  | .linkSet _ _ _ => some 39
  | .collect _ _ => some 40
  | .identify _ => some 41
  | .store _ => some 42
  | .restart _ => some 43
  | .unknownKind _ k _ => some k.toNat
  | _ => none

/-- The payload length of a kind whose form has no list, code 1 first (Table 10-9). -/
def payloadLengths : List Nat :=
  [5, 1, 3, 1, 11, 1, 3, 2, 2, 1, 1, 1, 4, 0, 4, 1, 1, 0, 1, 6, 0, 0, 0, 4, 0, 3, 1, 2, 3, 1, 0, 1, 15, 41, 0, 4, 1, 1, 3, 1,
    0, 0, 0]

/-- A payload of `n` bytes fits the form of kind `k` (Table 10-9): PAGE-LOAD, POINTS and LEVELS end with a list of whole
items of 5, 6 and 3 bytes. -/
def payloadFits (k n : Nat) : Bool :=
  match k with
  | 18 => decide (3 ≤ n ∧ (n - 3) % 5 = 0)
  | 31 => decide (1 ≤ n ∧ (n - 1) % 6 = 0)
  | 35 => decide (n % 3 = 0)
  | k => decide (payloadLengths[k - 1]? = some n)

/-- A kind that may be broadcast (Table 10-4). -/
def broadcastKind (k : Nat) : Bool := [21, 23, 26, 27, 36, 37, 39, 43].contains k

end Sys2Proof
end

