-- ==== Sys2Proof/Certificates/Slice0/Obligations.lean ====
section
/-! DEFINITION. The statements for the provers, in the order of the spec's chapters: the step and the line, requests by
owner, events, shared operations, frames, and the invariants that every step keeps. A request statement writes its answer
with `State.closed` (R158): `s.contact` is the state after R159 and R160, and `s.closed t d k st data` the state where the
owner leaves `t` and answers `st` with `data` to a frame of kind `k` addressed as `d`. -/

section
open Sys2Proof Sys2Proof.Machine

/-! ## The step -/

/-- A step takes the command at the front of the queue and runs it with the queue's rest; with no command waiting it is
one tick of the clock (the model's choice: log entry 2). -/
def Obligations.StepTakesFrontCommandOrTicks : Prop :=
  (∀ (c : Instr) (rest : List Instr) (s : State), s.pending = c :: rest → step s = exec c { s with pending := rest }) ∧
  (∀ s : State, s.pending = [] → step s = .next { s with now := s.now + 1 })

/-- No command ends in a fault or a refusal, and none touches the queue of waiting commands. -/
def Obligations.EveryCommandAnswersNext : Prop :=
  ∀ (c : Instr) (s : State), ∃ t, exec c s = .next t ∧ t.pending = s.pending

/-! ## Chip reset and start-up (R169) -/

/-- CHIP_RESET puts every block at its reset values in any state; the clock goes on, the store keeps its contents, and a
store cut short is no longer intact (log entry 27). The reset values are those each chapter gives; raw readings,
positions, address and committed brightness before start-up are the model's choice (log entry 4), as is 0 for the drive
level of the most recent sample (log entry 42) and the generator phase (log entry 49) and timers at 0 (log entry 23),
and so are the working settings, the link rate in force and the profile state (log entry 35). -/
def Obligations.ChipResetRestoresResetValues : Prop :=
  (∀ s : State, ∃ st : StoredProfile,
    exec .chipReset s = .next { State.reset with now := s.now, pending := s.pending, stored := st } ∧
      st.contents = s.stored.contents ∧ (s.storing = none → st = s.stored) ∧ (s.storing ≠ none → st.intact = false)) ∧
  (let s := State.reset
  s.part = .inReset ∧
    (∀ f, s.stateOf f = .parked ∧ s.claimOf f = .none ∧ (s.fader f).record.pendingCal = none ∧
      (s.fader f).record.planned = none ∧ (s.fader f).record.deadline = none ∧ (s.fader f).record.expiry = none ∧
      (s.fader f).motion.ramp = .none ∧ (s.fader f).motion.drive = 0 ∧ (s.fader f).motion.settleCount = 0 ∧
      (s.fader f).heat = ⟨0, 0, false, 0, 0⟩ ∧
      (s.fader f).touch.on = false ∧ (s.fader f).touch.present = 0 ∧ (s.fader f).touch.absent = 0 ∧
      (s.fader f).touch.captures = [] ∧ (s.fader f).touch.lost = false ∧
      (s.fader f).fault = ⟨⟨false, false, false⟩, ⟨false, false, false⟩, none, none, none, none⟩ ∧
      (s.fader f).cal = none ∧
      (s.fader f).lane = ⟨false, 200, [], none, none, none, false, none⟩ ∧ s.roleOf f = .none) ∧
    s.queue = [] ∧ s.holders = [] ∧ (∀ g, s.group g = none) ∧ (∀ p, s.page p = ⟨0, []⟩) ∧ s.recalls = [] ∧
    s.timeline.count = 0 ∧ s.timeline.run = false ∧ s.timeline.locked = true ∧ s.timeline.phase = 0 ∧
    (∀ m, s.meter m = ⟨255, false, 255, 0, 255, .holding, 0, false, 0, ⟨0, 0, false⟩⟩) ∧
    s.stream.live = true ∧ s.scanner.committed = darkImage ∧
    s.link.lost = false ∧ s.link.duplicate = false ∧ s.link.dir = false ∧ s.link.reply = none ∧
    s.notices = [] ∧ s.attn = false ∧ s.storing = none ∧ s.pending = [])

/-- RESET_RELEASE: the straps give the address, the profile is loaded where it is intact and the defaults otherwise, and
each fader's first sample is classed and mapped through that calibration. PART_READY: every fader PARKED at its first
position, the timers started, STARTED raised and PROFILE with it where the profile failed its check; settings, address,
stored profile and clock are kept. The supervision, sync and loss timers start at READY. The model's choice: a committed
brightness of 0 at READY (log entry 4), PART_READY at the present time (log entry 3), a sync timer that starts at READY
(log entry 23), a generator phase of 0, with the whole frame periods the clock has behind it (log entry 49), and a
stream in which no frame is open until the first sync (log entry 30). -/
def Obligations.StartUpLoadsProfileAndParksFaders : Prop :=
  (∀ (a1 a0 : Strap) (raws : Vector (BitVec 12) 16) (s : State), s.part = .inReset →
    let c := if s.stored.intact then s.stored.contents else Settings.default
    ∃ t, exec (.resetRelease a1 a0 raws) s = .next t ∧
      t = { s with
        part := .starting
        settings := c
        profileValid := s.stored.intact
        link := { s.link with address := 4 * strapValue a1 + strapValue a0, rate := c.linkRate }
        faders := t.faders } ∧
      ∀ f : FaderIx, t.fader f = { s.fader f with track := { (s.fader f).track with
        raw := raws[f.val].toNat
        cls := classify c.faders[f.val].calLow c.faders[f.val].calHigh raws[f.val].toNat
        pos := firstPosition c.faders[f.val].calLow c.faders[f.val].calHigh raws[f.val].toNat
        lastValid := firstPosition c.faders[f.val].calLow c.faders[f.val].calHigh raws[f.val].toNat
        first := false } }) ∧
  (∀ s : State, s.part = .starting → ∃ t, exec .partReady s = .next t ∧
    t.part = .ready ∧ t.now = s.now ∧ t.settings = s.settings ∧ t.stored = s.stored ∧ t.storing = none ∧
    t.profileValid = s.profileValid ∧ t.pending = s.pending ∧
    (∀ f, t.stateOf f = .parked ∧ t.claimOf f = .none ∧ t.posOf f = s.posOf f ∧ t.targetOf f = s.posOf f ∧
      t.holdOf f = s.posOf f ∧ (t.fader f).record.lastReported = s.posOf f ∧ (t.fader f).motion.setpoint = s.posOf f ∧
      (t.fader f).motion.drive = 0 ∧ t.heatOf f = 0 ∧ (t.fader f).touch.on = false ∧
      (t.fader f).fault = FaultItems.reset ∧ (t.fader f).lane = Lane.reset) ∧
    t.queue = [] ∧ (∀ g, t.group g = none) ∧ (∀ p, t.page p = Page.empty) ∧ t.recalls = [] ∧
    t.timeline = ⟨0, false, true, s.now, 0, s.now / s.settings.frameRate.period⟩ ∧ (∀ m, t.meter m = Meter.reset) ∧
    t.stream = ⟨true, s.now, false⟩ ∧ t.scanner = ⟨darkImage, darkImage, 0⟩ ∧
    t.link = ⟨s.link.address, s.link.rate, false, s.now, false, .waitIdle, [], none, false⟩ ∧
    t.notices = (if s.profileValid then [.started .power] else [.started .power, .profile .defaults]) ∧ t.attn = true)

/-- Before READY only CHIP_RESET, RESET_RELEASE and PART_READY have an effect; and a request frame that the receiver does
not read has none (log entries 11 and 16). -/
def Obligations.PartNotReadyOrNotListeningIsUnmoved : Prop :=
  (∀ (c : Instr) (s : State), s.part ≠ .ready → c ≠ .chipReset → c ≠ .partReady →
    (∀ a1 a0 raws, c ≠ .resetRelease a1 a0 raws) → exec c s = .next s) ∧
  (∀ (c : Instr) (s : State), c.dest ≠ none → s.hears = false → exec c s = .next s)

/-! ## Requests on the line (R157 to R160) -/

/-- An addressed request leaves its reply waiting, with the part's address, the request's kind and the rate in force
when it was taken; a broadcast one leaves no reply. Either way contact is restored before the request is taken and the
supervision timer restarts: the link is IN-CONTACT, and where it was LINK-LOST the LINK notice is raised with event
RESTORED and the teardown mark set (R160), at the tail or in place of the one pending (R164). A broadcast request of a
kind that is not broadcast-capable has no other effect. -/
def Obligations.RequestsAnswerOnTheLine : Prop :=
  (∀ (c : Instr) (k : Nat) (s : State), c.kind = some k → s.hears = true →
    ∃ t, exec c s = .next t ∧ t.link.lost = false ∧ t.link.supStart = s.now ∧ t.link.bytes = [] ∧
      t.link.address = s.link.address ∧ t.link.dir = s.link.dir ∧
      (c.dest = some .addressed → t.link.receiver = .replying ∧
        ∃ st data, t.link.reply = some ⟨s.link.address, k, st, data, s.link.rate⟩) ∧
      (c.dest = some .broadcast → t.link.receiver = .waitIdle ∧ t.link.reply = s.link.reply)) ∧
  (∀ (c : Instr) (k : Nat) (s : State), c.dest = some .broadcast → c.kind = some k → broadcastKind k = false →
    s.hears = true → exec c s = .next s.contact.waitIdle) ∧
  (∀ (c : Instr) (k : Nat) (s : State), c.kind = some k → s.hears = true → exec c s = exec c s.contact) ∧
  ∀ s : State, s.contact = { s with
    link := { s.link with supStart := s.now, lost := false }
    notices := if s.link.lost then raiseInto (.link .restored true) s.notices else s.notices }

/-! ## Requests that read (they change nothing but the line) -/

/-- FADER-READ (R35): the snapshot of the record, a time that is absent absent, one that is past 0. DRIVE-READ (R70):
the drive levels are those of each fader's most recent servo sample. RECALL-READ (R117): the settings in force and the
queue, head first, times of a RUNNING recall in whole milliseconds (log entry 7), an open entry with its fader's state.
IDENTIFY (R171, Table 10-8): the nine tagged items in tag order. IDENTIFY sends the check value's low byte first (log
entry 29). -/
def Obligations.ReadsReportAndChangeNothing : Prop :=
  (∀ s : State, s.hears = true →
    (∀ n, 16 ≤ n → exec (.faderRead .addressed n) s = .next (s.closed s.contact .addressed 6 .range .none)) ∧
    ∀ f : FaderIx,
      let x := s.fader f
      let left := fun t : Option Time => t.map fun t => wholeMs (t - s.now)
      exec (.faderRead .addressed f.val) s = .next (s.closed s.contact .addressed 6 .ok (.fader
        ⟨x.record.state, x.record.claim, x.record.target, x.record.hold, x.track.pos, x.track.lastValid,
          x.record.lastReported, x.track.raw, x.track.cls, left x.record.planned, left x.record.deadline,
          left x.record.expiry, x.touch.on, s.config f, x.record.pendingCal, x.fault.latched, x.fault.current,
          s.roleOf f⟩))) ∧
  (∀ s : State, s.hears = true →
    exec (.driveRead .addressed) s = .next (s.closed s.contact .addressed 14 .ok (.drive
      ⟨s.settings.budget, s.settings.heatTrip, s.settings.heatResume, s.holders.length, s.holders,
        s.queue.map fun f => (f, decide (s.stateOf f ≠ .waiting)),
        allFaders.map fun f => (s.heatOf f, decide (s.stateOf f = .rest), (s.fader f).heat.lastDrive)⟩))) ∧
  (∀ s : State, s.hears = true →
    exec (.recallRead .addressed) s = .next (s.closed s.contact .addressed 25 .ok
      (.recalls s.settings.lateness s.settings.recallExpiry (s.recalls.map fun r =>
        ⟨r.tag, r.page, r.condition, r.run.map fun x =>
          ⟨wholeMs (s.now - x.start), x.lateness, x.expiry,
            ((s.page r.page).entries.zip x.outcomes).map fun (e, o) =>
              match o with
              | some o => EntrySnapshot.resolved e.fader o
              | none => EntrySnapshot.stillOpen e.fader (s.stateOf e.fader)⟩⟩)))) ∧
  (∀ s : State, s.hears = true →
    exec (.identify .addressed) s = .next (s.closed s.contact .addressed 41 .ok (.bytes
      ([0x01#8, 0x06#8, 0x56#8, 0x45#8, 0x43#8, 0x41#8, 0x4A#8, 0x4F#8] ++
        [0x02#8, 0x05#8, 0x46#8, 0x4D#8, 0x43#8, 0x31#8, 0x36#8] ++
        [0x03#8, 0x01#8, BitVec.ofNat 8 (Config.revision.val + 1)] ++ [0x04#8, 0x01#8, 0x10#8] ++
        [0x05#8, 0x01#8, 0x20#8] ++ [0x06#8, 0x01#8, BitVec.ofNat 8 s.link.address] ++
        [0x07#8, 0x01#8, if s.link.duplicate then 1#8 else 0#8] ++
        [0x08#8, 0x01#8, if s.profileValid then 0#8 else 1#8] ++
        [0x09#8, 0x02#8, s.stored.check.setWidth 8, (s.stored.check >>> 8).setWidth 8]))))

/-- GROUP-READ (R93): a request restores contact before it is taken, so following is never reported suspended (R160).
PAGE-READ (R103) and LANE-READ (R137). Each is RANGE for a number out of range, and changes nothing. -/
def Obligations.GroupPageAndLaneReadsReport : Prop :=
  (∀ s : State, s.hears = true →
    (∀ n, 4 ≤ n → exec (.groupRead .addressed n) s = .next (s.closed s.contact .addressed 17 .range .none)) ∧
    ∀ g : GroupIx, exec (.groupRead .addressed g.val) s = .next (s.closed s.contact .addressed 17 .ok
      (.group ((s.group g).map fun r => ⟨r.master, r.leading, s.contact.link.lost,
        r.members.map fun m => ⟨m.fader, m.offset, m.clamped, m.deferred, decide (s.claimOf m.fader = .follow g)⟩⟩)))) ∧
  (∀ s : State, s.hears = true →
    (∀ n, 4 ≤ n → exec (.pageRead .addressed n) s = .next (s.closed s.contact .addressed 19 .range .none)) ∧
    ∀ p : PageIx, exec (.pageRead .addressed p.val) s = .next (s.closed s.contact .addressed 19 .ok
      (.page (s.page p).glide (s.page p).entries (s.recalls.countP fun r => decide (r.page = p))))) ∧
  (∀ s : State, s.hears = true →
    (∀ n, 16 ≤ n → exec (.laneRead .addressed n) s = .next (s.closed s.contact .addressed 32 .range .none)) ∧
    ∀ f : FaderIx, exec (.laneRead .addressed f.val) s = .next (s.closed s.contact .addressed 32 .ok
      (.lane ⟨⟨s.timeline.count, s.timeline.run, s.settings.source, s.settings.frameRate, s.timeline.locked⟩,
        decide (s.claimOf f = .lane true), (s.fader f).lane⟩)))

/-! ## Fader Control: MOVE, NULL, STOP, TEACH, FADER-SET -/

/-- MOVE refused (R30, Table 2-5): RANGE for a value out of range, else by state, else LANE-ACTIVE; nothing changes.
MOVE on a PARKED fader without a claim (R19, R30, R43, R59, R60): within the arrival window it arrives at once with a
MOTION notice; beyond it, it takes the claim and travels along a new ramp where a slot is free, and joins the queue's
tail where none is. Nothing else in the part changes but the line, notices and group records. MOVE on a fader in another
state, or over a DIRECT, RECALL or FOLLOW claim (R18, R45, R46, Table 2-4): the claim held ends, a DIRECT one with
MOTION SUPERSEDED, an entry SUPERSEDED; within the window the new one arrives at once (REST stays REST); beyond it a
WAITING fader keeps its place, a resting one waits for resume, and a moving one travels along a new ramp from its
setpoint. The arriving target stands in target and hold target of a claim it replaces (R26). -/
def Obligations.MoveIsRefusedArrivesTravelsOrWaits : Prop :=
  (∀ (n target glide : Nat) (s : State), s.hears = true →
    ((16 ≤ n ∨ 1023 < target ∨ 10000 < glide) →
      exec (.move .addressed n target glide) s = .next (s.closed s.contact .addressed 1 .range .none)) ∧
    ∀ f : FaderIx, target ≤ 1023 → glide ≤ 10000 →
      let answers := fun st => exec (.move .addressed f.val target glide) s =
        .next (s.closed s.contact .addressed 1 st .none)
      (s.stateOf f = .touched → answers .touched) ∧ (s.stateOf f = .faulted → answers .faulted) ∧
        (∀ p, s.stateOf f = .calibrating p → answers .calibrating) ∧
        ((s.stateOf f).takesClaims = true → (s.claimOf f).isLane = true → answers .laneActive)) ∧
  (∀ (f : FaderIx) (target glide : Nat) (s : State), s.hears = true → target ≤ 1023 → glide ≤ 10000 →
    s.stateOf f = .parked → s.claimOf f = .none → s.recalls = [] → s.heatOf f < s.settings.heatTrip →
    s.poolSettled → s.leadsTrue →
    ∃ t, exec (.move .addressed f.val target glide) s = .next t ∧
      t.link = { s.link with
        supStart := s.now, lost := false, receiver := .replying, bytes := [],
        reply := some ⟨s.link.address, 1, .accepted, .none, s.link.rate⟩ } ∧
      t.base = { s.base with link := t.link } ∧ t.recalls = [] ∧ (∀ f', f' ≠ f → t.fader f' = s.fader f') ∧
      t.targetOf f = target ∧
      (Sys2Proof.dist (s.posOf f) target ≤ (s.config f).arrivalWindow →
        t.stateOf f = .parked ∧ t.claimOf f = .none ∧ t.holdOf f = target ∧ t.queue = s.queue ∧
          Notice.motion f .direct .arrived (s.posOf f) false ∈ t.notices) ∧
      ((s.config f).arrivalWindow < Sys2Proof.dist (s.posOf f) target →
        t.claimOf f = .direct ∧ (t.fader f).record.planned = some (s.now + 6 * glide) ∧
          (s.settings.budget ≤ s.holders.length → t.stateOf f = .waiting ∧ t.queue = s.queue ++ [f]) ∧
          (s.holders.length < s.settings.budget → t.stateOf f = .travel ∧ t.queue = [] ∧
            (t.fader f).motion.setpoint = s.posOf f ∧
            (t.fader f).motion.ramp = .running ⟨s.posOf f, target, s.now,
              max (ceilDiv (6 * glide) 3) (ceilDiv (2 * Sys2Proof.dist (s.posOf f) target) (s.config f).speedLimit)⟩))) ∧
  (∀ (f : FaderIx) (target glide : Nat) (s : State), s.hears = true → target ≤ 1023 → glide ≤ 10000 →
    (s.stateOf f).takesClaims = true → (s.claimOf f).isLane = false → s.recalls.length ≤ 1 →
    ∃ t, exec (.move .addressed f.val target glide) s = .next t ∧
      t.link.reply = some ⟨s.link.address, 1, .accepted, .none, s.link.rate⟩ ∧
      t.base = { s.base with link := t.link } ∧ t.targetOf f = target ∧ (t.fader f).record.deadline = none ∧
      (t.fader f).record.expiry = none ∧ (s.claimOf f ≠ .none → t.holdOf f = target) ∧
      (∀ r run i, s.recalls = [r] → r.run = some run → s.claimOf f = .recall r.tag i → run.outcomes[i]? = some none →
        let left := run.outcomes.set i (some .superseded)
        (none ∈ left → t.recalls = [{ r with run := some { run with outcomes := left } }]) ∧
        (none ∉ left → t.recalls = [] ∧ Notice.recallEnd r.tag r.page false
          (((s.page r.page).entries.zip left).map fun (e, o) => (e.fader, o.getD .superseded)) ∈ t.notices)) ∧
      (Sys2Proof.dist (s.posOf f) target ≤ (s.config f).arrivalWindow →
        t.stateOf f = (if s.stateOf f = .rest then .rest else .parked) ∧ t.claimOf f = .none ∧ t.holdOf f = target ∧
          (t.fader f).record.planned = none ∧ Notice.motion f .direct .arrived (s.posOf f) false ∈ t.notices) ∧
      ((s.config f).arrivalWindow < Sys2Proof.dist (s.posOf f) target →
        t.claimOf f = .direct ∧ (t.fader f).record.planned = some (s.now + 6 * glide) ∧
          (s.claimOf f = .direct → Notice.motion f .direct .superseded (s.posOf f) false ∈ t.notices) ∧
          (s.stateOf f = .parked → s.heatOf f < s.settings.heatTrip →
            t.stateOf f = if f ∈ t.queue then .waiting else .travel) ∧
          (s.stateOf f = .waiting → t.stateOf f = .waiting ∧ t.queue = s.queue) ∧
          (s.stateOf f = .rest → t.stateOf f = .rest ∧ t.queue = s.queue ∧ (t.fader f).motion = (s.fader f).motion) ∧
          ((s.stateOf f = .travel ∨ s.stateOf f = .settle) →
            let setpoint := (s.fader f).motion.setpoint
            t.stateOf f = .travel ∧ (t.fader f).motion.settleCount = 0 ∧ (t.fader f).motion.setpoint = setpoint ∧
              (t.fader f).motion.ramp = .running ⟨setpoint, target, s.now, if setpoint = target then 0 else
                max (ceilDiv (6 * glide) 3)
                  (ceilDiv (2 * Sys2Proof.dist setpoint target) (s.config f).speedLimit)⟩)))

/-- NULL is MOVE to the detent in force when it is taken, and is answered as MOVE but for the kind in its reply: RANGE
for a fader above 15, and for every other fader what MOVE to the detent with the same glide does. A TEACH taken
afterwards leaves the target, the ramp and the times of the fader alone (R31). -/
def Obligations.NullIsMoveToDetent : Prop :=
  (∀ (n glide : Nat) (s : State), s.hears = true → 16 ≤ n →
    exec (.null .addressed n glide) s = .next (s.closed s.contact .addressed 3 .range .none)) ∧
  (∀ (f : FaderIx) (glide : Nat) (s : State), s.hears = true → (s.config f).detent ≤ 1023 →
    ∃ t, exec (.move .addressed f.val (s.config f).detent glide) s = .next t ∧
      exec (.null .addressed f.val glide) s =
        .next { t with link := { t.link with reply := t.link.reply.map fun r => { r with kind := 3 } } }) ∧
  ∀ (n : Nat) (s : State), ∃ t, exec (.teach .addressed n) s = .next t ∧
    ∀ f, (t.fader f).record = (s.fader f).record ∧ (t.fader f).motion = (s.fader f).motion

/-- STOP answers by the claim held (R32): NONE is OK and changes nothing, LANE is LANE-ACTIVE, FOLLOW is GROUPED, and
DIRECT and RECALL end HALTED. A claim that ends for any cause but arrival (R26) leaves claim NONE, its times cleared,
target and hold target at the position and a moving fader PARKED; the end of a DIRECT claim raises its MOTION notice,
and everything outside claims and motion is kept. -/
def Obligations.StopEndsClaimWhereFaderStands : Prop :=
  (∀ (s : State), s.hears = true →
    (∀ n, 16 ≤ n → exec (.stop .addressed n) s = .next (s.closed s.contact .addressed 2 .range .none)) ∧
    ∀ f : FaderIx,
      let answers := fun t st => exec (.stop .addressed f.val) s = .next (s.closed t .addressed 2 st .none)
      (s.claimOf f = .none → answers s.contact .ok) ∧
        (∀ b, s.claimOf f = .lane b → answers s.contact .laneActive) ∧
        (∀ g, s.claimOf f = .follow g → answers s.contact .grouped) ∧
        (s.claimOf f = .direct → answers (s.contact.endClaim f .halted).settleRecalls .ok) ∧
        (∀ tag i, s.claimOf f = .recall tag i → answers (s.contact.endClaim f .halted).settleRecalls .ok)) ∧
  (∀ (f : FaderIx) (o : Outcome) (s : State), (s.stateOf f).phase = none →
    let t := s.endClaim f o
    t.claimOf f = .none ∧ (t.fader f).record.planned = none ∧ (t.fader f).record.deadline = none ∧
      (t.fader f).record.expiry = none ∧ t.targetOf f = s.posOf f ∧ t.holdOf f = s.posOf f ∧
      t.stateOf f = (if (s.stateOf f).moving then .parked else s.stateOf f) ∧
      (s.claimOf f = .direct → Notice.motion f .direct o (s.posOf f) false ∈ t.notices) ∧ t.base = s.base)

/-- TEACH (R33): the detent becomes the position, in the working settings only; refused STATE while TRACK is current. -/
def Obligations.TeachSetsDetent : Prop :=
  ∀ (s : State), s.hears = true →
    (∀ n, 16 ≤ n → exec (.teach .addressed n) s = .next (s.closed s.contact .addressed 4 .range .none)) ∧
    ∀ f : FaderIx,
      ((s.fader f).fault.current.track = true →
        exec (.teach .addressed f.val) s = .next (s.closed s.contact .addressed 4 .state .none)) ∧
      ((s.fader f).fault.current.track = false →
        exec (.teach .addressed f.val) s = .next (s.closed
          { s.contact with settings := { s.settings with
              faders := s.settings.faders.set f.val { s.config f with detent := s.posOf f } } }
          .addressed 4 .ok (.detent (s.posOf f))))

/-- FADER-SET (R34): refused RANGE for an empty set or a value out of range; otherwise every present setting is written
to every fader of the set and to no other. Where no touch sensing enable changes, nothing else changes but the MOVE test
of each fader whose report step changed, made with the new step in fader order (R28; log entry 24). Touch sensing turned
off ends a touch as TOUCH-OFF does (R9, R24): a capture and its notice; a TOUCHED fader without a claim rests or parks
at its position; one with a suspended LANE claim ends it under STAY, and takes it up again under RETURN, by the release
behaviour then in force: its target at the lane value and its hold target at the position, as read from R24 and R54 (log
entry 33). -/
def Obligations.FaderSetWritesPresentSettings : Prop :=
  ∀ (faders : BitVec 16) (o : FaderSetOperand) (s : State), s.hears = true →
    let ok := (∀ n, o.release = some n → n ≤ 1) ∧ (∀ n, o.touchEnable = some n → n ≤ 1) ∧
      (∀ n, o.arrivalWindow = some n → 1 ≤ n ∧ n ≤ 8) ∧ (∀ n, o.holdWindow = some n → 3 ≤ n ∧ n ≤ 32) ∧
      (∀ n, o.speedLimit = some n → 1 ≤ n ∧ n ≤ 8) ∧ (∀ n, o.reportStep = some n → 1 ≤ n ∧ n ≤ 16) ∧
      (∀ n, o.detent = some n → n ≤ 1023)
    ((faders = 0#16 ∨ ¬ok) →
      exec (.faderSet .addressed faders o) s = .next (s.closed s.contact .addressed 5 .range .none)) ∧
    (faders ≠ 0#16 → ok → ∃ t, exec (.faderSet .addressed faders o) s = .next t ∧
      t.link.reply = some ⟨s.link.address, 5, .ok, .none, s.link.rate⟩ ∧
      t.settings = { s.settings with faders := t.settings.faders } ∧
      (∀ f : FaderIx, faders.getLsbD f.val = false → t.config f = s.config f) ∧
      (∀ f : FaderIx, faders.getLsbD f.val = true →
        t.config f = { s.config f with
          release := match o.release with
            | some 0 => .return
            | some _ => .stay
            | none => (s.config f).release
          touchEnable := match o.touchEnable with
            | some n => decide (n = 1)
            | none => (s.config f).touchEnable
          arrivalWindow := o.arrivalWindow.getD (s.config f).arrivalWindow
          holdWindow := o.holdWindow.getD (s.config f).holdWindow
          speedLimit := o.speedLimit.getD (s.config f).speedLimit
          reportStep := o.reportStep.getD (s.config f).reportStep
          detent := o.detent.getD (s.config f).detent } ∧
        ((s.config f).touchEnable = true → o.touchEnable = some 0 →
          (t.fader f).touch.on = false ∧ (t.fader f).touch.present = 0 ∧ (t.fader f).touch.absent = 0)) ∧
      (∀ f : FaderIx, (t.fader f).track = (s.fader f).track ∧ (t.fader f).heat = (s.fader f).heat) ∧
      ((∀ f : FaderIx, (t.config f).touchEnable = (s.config f).touchEnable) → t.faders = s.faders ∧
        t.notices = (allFaders.filter fun f => decide ((t.config f).reportStep ≠ (s.config f).reportStep)
            && (s.stateOf f).testsMove && !(s.fader f).fault.current.track
            && decide ((t.config f).reportStep ≤ Sys2Proof.dist (s.posOf f) (s.fader f).record.lastReported)).foldl
          (fun l f => raiseInto (.move f) l) s.contact.notices) ∧
      ∀ f : FaderIx, faders.getLsbD f.val = true → (s.config f).touchEnable = true → o.touchEnable = some 0 →
        (s.fader f).touch.on = true →
        let x := (s.fader f).touch
        let resting := s.settings.heatResume ≤ s.heatOf f
        (t.fader f).touch = ⟨false, 0, 0,
          if x.captures.length < 2 then x.captures ++ [⟨false, s.posOf f, s.timeline.count⟩] else x.captures,
          x.lost || decide (2 ≤ x.captures.length), x.nextSample⟩ ∧ Notice.capture f ∈ t.notices ∧
        (s.stateOf f = .touched → s.claimOf f = .none → t.claimOf f = .none ∧ t.targetOf f = s.posOf f ∧
          t.holdOf f = s.posOf f ∧ t.stateOf f = if resting then .rest else .parked) ∧
        (s.stateOf f = .touched → s.claimOf f = .lane true → (s.fader f).lane.enabled = true → t.holdOf f = s.posOf f ∧
          ((t.config f).release = .stay → t.claimOf f = .none ∧ t.targetOf f = s.posOf f ∧
            (t.fader f).lane.enabled = false ∧ Notice.lane f .release s.timeline.count ∈ t.notices ∧
            t.stateOf f = if resting then .rest else .parked) ∧
          ((t.config f).release = .return → t.claimOf f = .lane false ∧ (t.fader f).lane = (s.fader f).lane ∧
            t.targetOf f = (s.fader f).lane.value.getD (s.posOf f) ∧ (resting → t.stateOf f = .rest))))

/-! ## Faults and calibration -/

/-- WATCH-SET (R78): written to every fader of the set and to no other; a condition current on a fader with nothing
latched latches at once where it is now watched, and the fader is FAULTED; on a fader already FAULTED it joins the latched
set, its record standing. The conditions added are taken in the order of Table 10-7: the last of them is the most recent
latch, and the FAULT notice that names it is pending (R77). TRACK of a fader in CAL-WAIT latches where no fader of the set
stands before it in fader order; a slot freed by one that does may grant it a slot first, which ends TRACK (R73; log entry
24). Bits of the set above the third name no condition (log entry 10). -/
def Obligations.WatchSetLatchesCurrentConditions : Prop :=
  ∀ (faders : BitVec 16) (watch : Nat) (s : State), s.hears = true →
    (faders = 0#16 → exec (.watchSet .addressed faders watch) s = .next (s.closed s.contact .addressed 7 .range .none)) ∧
    (faders ≠ 0#16 → ∃ t, exec (.watchSet .addressed faders watch) s = .next t ∧
      t.link.reply = some ⟨s.link.address, 7, .ok, .none, s.link.rate⟩ ∧
      (∀ f : FaderIx, t.config f = if faders.getLsbD f.val then
        { s.config f with watch := ⟨watch.testBit 0, watch.testBit 1, watch.testBit 2⟩ } else s.config f) ∧
      t.settings = { s.settings with faders := t.settings.faders } ∧
      ∀ f : FaderIx, faders.getLsbD f.val = true →
        let x := (s.fader f).fault
        let found := fun c => x.current.has c && (condSetOf watch).has c
        let added := [Cond.stall, .track, .overcurrent].filter fun c => found c && !x.latched.has c
        let first := ∀ f' : FaderIx, f' < f → faders.getLsbD f'.val = false
        (∀ c, x.latched.isEmpty = true → found c = true →
          (c = .track → s.stateOf f ≠ .calibrating .calWait ∨ first) →
          (t.fader f).fault.latched.has c = true ∧ t.stateOf f = .faulted ∧ t.claimOf f = .none) ∧
        ((s.stateOf f ≠ .calibrating .calWait ∨ first) →
          (∀ c, (t.fader f).fault.latched.has c = (x.latched.has c || found c)) ∧
          (∀ c, added.getLast? = some c → (t.fader f).fault.lastLatch = some c ∧ Notice.fault f c ∈ t.notices) ∧
          (added = [] → (t.fader f).fault.lastLatch = x.lastLatch) ∧
          (x.latched.isEmpty = false → s.stateOf f = .faulted → (t.fader f).record = (s.fader f).record)))

/-- FAULT-CLEAR (R79): RANGE, NOTHING, or each condition of the set that is latched and not current is removed; a set so
emptied takes the fader out of FAULTED, to TOUCHED under a hand and to PARKED otherwise, at its position. Bits of the
set above the third name no condition (log entry 10). That RANGE comes before NOTHING, between which R79 gives no order,
is the model's choice (log entry 45). -/
def Obligations.FaultClearRemovesCeasedConditions : Prop :=
  ∀ (s : State), s.hears = true →
    (∀ n c, (16 ≤ n ∨ (condSetOf c).isEmpty = true) →
      exec (.faultClear .addressed n c) s = .next (s.closed s.contact .addressed 8 .range .none)) ∧
    ∀ (f : FaderIx) (c : Nat), (condSetOf c).isEmpty = false →
      ((s.fader f).fault.latched.isEmpty = true →
        exec (.faultClear .addressed f.val c) s = .next (s.closed s.contact .addressed 8 .nothing .none)) ∧
      ((s.fader f).fault.latched.isEmpty = false → ∃ t, exec (.faultClear .addressed f.val c) s = .next t ∧
        (∀ k, (t.fader f).fault.latched.has k =
          ((s.fader f).fault.latched.has k && !((condSetOf c).has k && !(s.fader f).fault.current.has k))) ∧
        (t.fader f).fault.current = (s.fader f).fault.current ∧
        t.link.reply = some ⟨s.link.address, 8, .ok,
          .conditions (t.fader f).fault.latched (t.fader f).fault.current, s.link.rate⟩ ∧
        t.base = { s.base with link := t.link } ∧ (∀ f', f' ≠ f → (t.fader f').fault = (s.fader f').fault) ∧
        ((t.fader f).fault.latched.isEmpty = false → (t.fader f).record = (s.fader f).record) ∧
        ((t.fader f).fault.latched.isEmpty = true → s.stateOf f = .faulted →
          t.stateOf f = (if (s.fader f).touch.on then .touched else .parked) ∧ t.claimOf f = .none ∧
            t.targetOf f = s.posOf f ∧ t.holdOf f = s.posOf f))

/-- CALIBRATE (R81, Table 5-3): the first fader of the set that meets a case gives the refusal and nothing changes; else
every fader of the set is taken in fader order, with claim NONE: a DIRECT claim ends SUPERSEDED with its MOTION notice,
the fader leaves the place it had in the queue and joins the tail in CAL-WAIT, and the slots then free go to the queue's
head, so that it is in CAL-DOWN where one reaches it; at or above the trip value it rests instead, its calibration ended
TIMEOUT (R65). -/
def Obligations.CalibrateIsTakenWholeOrRefusedWhole : Prop :=
  ∀ (faders : BitVec 16) (s : State), s.hears = true →
    (faders = 0#16 → exec (.calibrate .addressed faders) s = .next (s.closed s.contact .addressed 9 .range .none)) ∧
    (∀ (f : FaderIx) (st : Status), faders.getLsbD f.val = true → s.calRefusal f = some st →
      (∀ f', f' < f → faders.getLsbD f'.val = true → s.calRefusal f' = none) →
      exec (.calibrate .addressed faders) s = .next (s.closed s.contact .addressed 9 st (.refusedAt f))) ∧
    (faders ≠ 0#16 → (∀ f : FaderIx, faders.getLsbD f.val = true → s.calRefusal f = none ∧
        s.heatOf f < s.settings.heatTrip) →
      ∃ t, exec (.calibrate .addressed faders) s = .next t ∧
        t.link.reply = some ⟨s.link.address, 9, .accepted, .none, s.link.rate⟩ ∧ t.base = { s.base with link := t.link } ∧
        ∀ f : FaderIx, faders.getLsbD f.val = true → t.claimOf f = .none ∧ (t.fader f).record.pendingCal = none ∧
          (t.stateOf f = .calibrating .calWait ∨ t.stateOf f = .calibrating .calDown)) ∧
    (faders ≠ 0#16 → (∀ f : FaderIx, faders.getLsbD f.val = true → s.calRefusal f = none) →
      exec (.calibrate .addressed faders) s = .next (s.closed
        ((allFaders.filter fun f => faders.getLsbD f.val).foldl (fun u f => u.calibrateOne f) s.contact)
        .addressed 9 .accepted .none)) ∧
    (∀ f : FaderIx, s.queueExact → s.calRefusal f = none →
      let t := s.calibrateOne f
      let joined := s.queue.filter (· ≠ f) ++ if s.heatOf f < s.settings.heatTrip then [f] else []
      t.base = s.base ∧ t.claimOf f = .none ∧ (t.fader f).record.pendingCal = none ∧
        (∃ k, t.queue = joined.drop k ∧ (k < joined.length → s.settings.budget ≤ t.holders.length) ∧
          (0 < k → t.holders.length ≤ s.settings.budget)) ∧
        (s.claimOf f = .direct → t.targetOf f = s.posOf f ∧ t.holdOf f = s.posOf f ∧
          Notice.motion f .direct .superseded (s.posOf f) false ∈ t.notices) ∧
        (s.heatOf f < s.settings.heatTrip →
          t.stateOf f = .calibrating (if f ∈ t.queue then .calWait else .calDown)) ∧
        (s.settings.heatTrip ≤ s.heatOf f → t.stateOf f = .rest ∧ t.targetOf f = s.posOf f ∧ t.holdOf f = s.posOf f ∧
          Notice.cal f .timeout .calWait none none none ∈ t.notices ∧ Notice.rest f true .heat ∈ t.notices)) ∧
    ∀ f : FaderIx, s.calRefusal f =
      (match s.stateOf f, s.claimOf f with
        | .touched, _ => some .touched
        | .faulted, _ => some .faulted
        | .calibrating _, _ => some .calibrating
        | .rest, _ => some .state
        | _, .recall _ _ => some .recallActive
        | _, .lane _ => some .laneActive
        | _, .follow _ => some .grouped
        | _, _ => none)

/-- CAL-ACCEPT and CAL-REJECT (R85, R86): in CAL-REVIEW the fader parks with claim NONE, the accepted result in force or
the old calibration kept; CAL-ACCEPT is STORE-BUSY while STORING; in other states STATE, FAULTED or NOTHING. -/
def Obligations.ReviewEndsByAcceptOrReject : Prop :=
  ∀ (s : State), s.hears = true →
    (∀ n, 16 ≤ n → exec (.calAccept .addressed n) s = .next (s.closed s.contact .addressed 10 .range .none) ∧
      exec (.calReject .addressed n) s = .next (s.closed s.contact .addressed 11 .range .none)) ∧
    ∀ f : FaderIx,
      (s.stateOf f ≠ .calibrating .calReview →
        let st : Status := match s.stateOf f with
          | .calibrating _ => .state
          | .faulted => .faulted
          | _ => .nothing
        exec (.calAccept .addressed f.val) s = .next (s.closed s.contact .addressed 10 st .none) ∧
          exec (.calReject .addressed f.val) s = .next (s.closed s.contact .addressed 11 st .none)) ∧
      (s.stateOf f = .calibrating .calReview → ∀ c, (s.fader f).record.pendingCal = some c →
        (s.storing ≠ none →
          exec (.calAccept .addressed f.val) s = .next (s.closed s.contact .addressed 10 .storeBusy .none)) ∧
        (s.storing = none → ∃ t, exec (.calAccept .addressed f.val) s = .next t ∧
          t.config f = { s.config f with calLow := c.low, calHigh := c.high } ∧
          t.targetOf f = mapRaw c.low c.high (s.fader f).track.raw ∧
          t.holdOf f = mapRaw c.low c.high (s.fader f).track.raw ∧
          t.stateOf f = .parked ∧ t.claimOf f = .none ∧ (t.fader f).record.pendingCal = none ∧ (t.fader f).cal = none ∧
          t.link.reply = some ⟨s.link.address, 10, .ok, .calibration c.low c.high, s.link.rate⟩ ∧
          t.base = { s.base with link := t.link, settings := t.settings } ∧
          ∀ f', f' ≠ f → t.config f' = s.config f') ∧
        ∃ t, exec (.calReject .addressed f.val) s = .next t ∧
          t.targetOf f = s.posOf f ∧ t.holdOf f = s.posOf f ∧ t.stateOf f = .parked ∧ t.claimOf f = .none ∧
          (t.fader f).record.pendingCal = none ∧ (t.fader f).cal = none ∧
          t.link.reply = some ⟨s.link.address, 11, .ok, .calibration (s.config f).calLow (s.config f).calHigh,
            s.link.rate⟩ ∧ t.base = { s.base with link := t.link })

/-! ## The Drive Pool -/

/-- The grant rule (R60): slots go to the head of the queue, one fader after another, until the holders reach the budget
or the queue is empty; a granted fader travels or begins CAL-DOWN at -35 % (R82), and no other fader changes. BUDGET-SET
and HEAT-SET (R62, R69): RANGE outside their ranges; otherwise in force at once, with the grant rule applied, and with
every trip and resume found against the new values carried out. Heat is not changed. -/
def Obligations.SlotsGoToQueueHeadAndSettingsAct : Prop :=
  (∀ s : State, s.queueExact →
    let t := s.grant
    ∃ k, k ≤ s.queue.length ∧ t.queue = s.queue.drop k ∧
      (∀ f ∈ s.queue.take k, (s.stateOf f = .waiting → t.stateOf f = .travel) ∧
        (s.stateOf f ≠ .waiting → t.stateOf f = .calibrating .calDown ∧ (t.fader f).motion.drive = -35)) ∧
      (∀ f, f ∉ s.queue.take k → t.fader f = s.fader f) ∧
      t.holders.length = s.holders.length + k ∧
      (k < s.queue.length → s.settings.budget ≤ t.holders.length) ∧ (0 < k → t.holders.length ≤ s.settings.budget) ∧
      t.base = s.base ∧ t.notices = s.notices ∧ t.recalls = s.recalls ∧ t.groups = s.groups) ∧
  (∀ (s : State), s.hears = true →
    (∀ b, (b < 1 ∨ 16 < b) → exec (.budgetSet .addressed b) s = .next (s.closed s.contact .addressed 12 .range .none)) ∧
    (∀ b, 1 ≤ b → b ≤ 16 → exec (.budgetSet .addressed b) s =
      .next (s.closed ({ s.contact with settings := { s.settings with budget := b } }).grant .addressed 12 .ok .none)) ∧
    (∀ x y, (x < 500 ∨ 4095 < x ∨ x < y + 100) →
      exec (.heatSet .addressed x y) s = .next (s.closed s.contact .addressed 13 .range .none)) ∧
    (∀ x y, 500 ≤ x → x ≤ 4095 → y + 100 ≤ x → ∃ t, exec (.heatSet .addressed x y) s = .next t ∧
      t.link.reply = some ⟨s.link.address, 13, .ok, .none, s.link.rate⟩ ∧
      t.settings = { s.settings with heatTrip := x, heatResume := y } ∧
      t.base = { s.base with link := t.link, settings := t.settings } ∧
      ∀ f, ((s.stateOf f).trips = true → x ≤ s.heatOf f → t.stateOf f = .rest) ∧
        (s.stateOf f = .rest → s.heatOf f ≤ y → t.stateOf f ≠ .rest)))

/-! ## Groups -/

/-- GROUP-FORM (R91): RANGE, then GROUPED, else the group is in use with its master, its members in fader order, each
with its offset and clear marks, and the leading item evaluated (R94). GROUP-DISSOLVE (R92): RANGE, NOTHING, or the
group is freed, the other groups, the recalls and the lanes standing: each member's FOLLOW claim for it ends, the member
PARKED or in REST at its position. A follow target is the master's position plus the offset, clamped into 0-1023 (R95).
-/
def Obligations.GroupsFormFollowAndDissolve : Prop :=
  (∀ (n m : Nat) (set : BitVec 16) (s : State), s.hears = true →
    ((4 ≤ n ∨ 16 ≤ m ∨ set = 0#16 ∨ set.getLsbD m = true) →
      exec (.groupForm .addressed n m set) s = .next (s.closed s.contact .addressed 15 .range .none)) ∧
    ∀ (g : GroupIx) (f : FaderIx), n = g.val → m = f.val → set ≠ 0#16 → set.getLsbD m = false →
      let taken := s.group g ≠ none ∨ s.roleOf f ≠ .none ∨ ∃ f' : FaderIx, set.getLsbD f'.val = true ∧ s.roleOf f' ≠ .none
      let l := (allFaders.filter fun f' => set.getLsbD f'.val).map fun f' =>
        (⟨f', (s.posOf f' : Int) - s.posOf f, false, false⟩ : Member)
      (taken → exec (.groupForm .addressed n m set) s = .next (s.closed s.contact .addressed 15 .grouped .none)) ∧
      (¬taken → exec (.groupForm .addressed n m set) s = .next (s.closed
        { s.contact with groups := s.groups.set g.val (some ⟨f, l, s.meetsLead f⟩) }
        .addressed 15 .ok (.offsets (l.map fun x => (x.fader, x.offset)))))) ∧
  (∀ (s : State), s.hears = true →
    (∀ n, 4 ≤ n → exec (.groupDissolve .addressed n) s = .next (s.closed s.contact .addressed 16 .range .none)) ∧
    ∀ g : GroupIx,
      (s.group g = none →
        exec (.groupDissolve .addressed g.val) s = .next (s.closed s.contact .addressed 16 .nothing .none)) ∧
      ∀ r, s.group g = some r → ∃ t, exec (.groupDissolve .addressed g.val) s = .next t ∧
        t.link.reply = some ⟨s.link.address, 16, .ok, .none, s.link.rate⟩ ∧ t.groups = s.groups.set g.val none ∧
        t.recalls = s.recalls ∧ t.base = { s.base with link := t.link } ∧
        (∀ f, (t.fader f).lane = (s.fader f).lane) ∧
        ∀ f ∈ r.members.map (·.fader), s.claimOf f = .follow g → (s.stateOf f).takesClaims = true →
          t.claimOf f = .none ∧ t.targetOf f = s.posOf f ∧ t.holdOf f = s.posOf f ∧
            t.stateOf f = if s.stateOf f = .rest then .rest else .parked) ∧
  (∀ (pos : Nat) (offset : Int),
    (0 ≤ (pos : Int) + offset → (pos : Int) + offset ≤ 1023 →
      (followTarget pos offset : Int) = pos + offset ∧ followClamped pos offset = false) ∧
    ((pos : Int) + offset < 0 → followTarget pos offset = 0 ∧ followClamped pos offset = true) ∧
    (1023 < (pos : Int) + offset → followTarget pos offset = 1023 ∧ followClamped pos offset = true))

/-! ## Pages and recalls -/

/-- PAGE-LOAD (R102): RANGE, DUPLICATE and PAGE-BUSY in that order, else the page is replaced whole. -/
def Obligations.PageLoadReplacesPageWhole : Prop :=
  ∀ (n glide : Nat) (l : List EntryOperand) (s : State), s.hears = true →
    let bad := 4 ≤ n ∨ 10000 < glide ∨ 16 < l.length ∨
      ∃ e ∈ l, 16 ≤ e.fader ∨ 1023 < e.target ∨ ∃ x, e.glide = some x ∧ 10000 < x
    (bad → exec (.pageLoad .addressed n glide l) s = .next (s.closed s.contact .addressed 18 .range .none)) ∧
    ∀ p : PageIx, n = p.val → ¬bad →
      (¬(l.map (·.fader)).Nodup →
        exec (.pageLoad .addressed n glide l) s = .next (s.closed s.contact .addressed 18 .duplicate .none)) ∧
      ((l.map (·.fader)).Nodup → (∃ r ∈ s.recalls, r.page = p) →
        exec (.pageLoad .addressed n glide l) s = .next (s.closed s.contact .addressed 18 .pageBusy .none)) ∧
      ((l.map (·.fader)).Nodup → (∀ r ∈ s.recalls, r.page ≠ p) →
        ∃ es : List Entry, es.map (fun e => (⟨e.fader.val, e.target, e.glide⟩ : EntryOperand)) = l ∧
          exec (.pageLoad .addressed n glide l) s = .next (s.closed
            { s.contact with pages := s.pages.set p.val ⟨glide, es⟩ } .addressed 18 .ok .none))

/-- RECALL (R105, R106): RANGE, FULL, or a PENDING record joins the tail; it starts at once where it becomes head with
NOW, or with AT a count that is reached, and the reply says whether it did. That RANGE comes before FULL, between which
R105 gives no order, is the model's choice (log entry 45). -/
def Obligations.RecallJoinsQueueAndMayStart : Prop :=
  ∀ (tag n code count : Nat) (s : State), s.hears = true → s.recallsOpen →
    ((4 ≤ n ∨ 3 ≤ code) →
      exec (.recall .addressed tag n code count) s = .next (s.closed s.contact .addressed 20 .range .none)) ∧
    (n < 4 → code < 3 → 2 ≤ s.recalls.length →
      exec (.recall .addressed tag n code count) s = .next (s.closed s.contact .addressed 20 .full .none)) ∧
    ∀ p : PageIx, n = p.val → code < 3 → s.recalls.length < 2 →
      let c : StartCondition := if code = 0 then .now else if code = 1 then .fire else (.at count)
      let queued := { s.contact with recalls := s.recalls ++ ([⟨tag, p, c, none⟩] : List Recall) }
      let starts := s.recalls = [] ∧ (code = 0 ∨ code = 2 ∧ count ≤ s.timeline.count)
      (¬starts → exec (.recall .addressed tag n code count) s =
        .next (s.closed queued .addressed 20 .accepted (.recallTaken tag false))) ∧
      (starts → exec (.recall .addressed tag n code count) s =
        .next (s.closed queued.startHead.settleRecalls .addressed 20 .accepted (.recallTaken tag true)))

/-- The start of a recall (R108, R112): it is RUNNING from now with the lateness allowance and the expiry in force and
every outcome absent, and its page's entries are handed over from there one after another, in entry index order; one of
an empty page completes at once with its RECALL-END. An entry handed over: a fader in TOUCHED, FAULTED or CALIBRATING
resolves it OVERRIDDEN, FAULTED or SKIPPED and is not touched. In another state the claim held ends: DIRECT with MOTION
SUPERSEDED, LANE with its lane disabled for reason RECALL, FOLLOW without notice, the entry's target standing in target
and hold target (R20, R26, Table 2-4, by which a RECALL claim held does not arise). Within the arrival window the entry
resolves ARRIVED, or LATE after its deadline, the fader PARKED, or in REST where it was (R19). Beyond it the fader takes
a RECALL claim with planned arrival, deadline and expiry: a PARKED one joins the queue or travels, or rests at or above
the trip value; a WAITING one keeps its place; a resting one waits for resume; a moving one travels along a new ramp
from its setpoint (R18, R45, R46), and the offset of a member that followed is not retaken yet (R98). -/
def Obligations.StartedRecallHandsItsEntries : Prop :=
  (∀ (s : State) (r : Recall) (rest : List Recall), s.recalls = r :: rest →
    let p := s.page r.page
    let run : RecallRun := ⟨s.now, s.settings.lateness, s.settings.recallExpiry, p.entries.map fun _ => none⟩
    s.startHead = p.entries.zipIdx.foldl (fun u x => u.handEntry r.tag p.glide run x.1 x.2)
      { s with recalls := { r with run := some run } :: rest }) ∧
  (∀ (s : State) (r : Recall), s.recalls = [r] → r.run = none → (s.page r.page).entries = [] →
    s.startHead.settleRecalls.recalls = [] ∧
      Notice.recallEnd r.tag r.page false [] ∈ s.startHead.settleRecalls.notices) ∧
  ∀ (s : State) (r : Recall) (run : RecallRun) (rest : List Recall) (e : Entry) (i glide : Nat),
    s.recalls = r :: rest → r.run = some run → run.outcomes[i]? = some none →
    let t := s.handEntry r.tag glide run e i
    let wrote := fun o : Outcome => t.recalls = { r with run := some { run with outcomes := run.outcomes.set i (some o) } } :: rest
    (s.stateOf e.fader = .touched → wrote .overridden ∧ t.faders = s.faders) ∧
      (s.stateOf e.fader = .faulted → wrote .faulted ∧ t.faders = s.faders) ∧
      (∀ p, s.stateOf e.fader = .calibrating p → wrote .skipped ∧ t.faders = s.faders) ∧
      ((s.stateOf e.fader).takesClaims = true → (s.claimOf e.fader).isRecall = false →
        let f := e.fader
        let old := s.claimOf f
        let planned := run.start + 6 * (e.glide.getD glide)
        let setpoint := (s.fader f).motion.setpoint
        t.base = s.base ∧ t.targetOf f = e.target ∧ (old ≠ .none → t.holdOf f = e.target) ∧
        (old = .direct → Notice.motion f .direct .superseded (s.posOf f) false ∈ t.notices) ∧
        (old.isLane = true → (s.fader f).lane.enabled = true → Notice.lane f .recall s.timeline.count ∈ t.notices ∧
          (t.fader f).lane = { (s.fader f).lane with
            enabled := false, queue := [], current := none, value := none, segment := none, starved := false }) ∧
        (Sys2Proof.dist (s.posOf f) e.target ≤ (s.config f).arrivalWindow →
          wrote (if s.now ≤ planned + 6 * run.lateness then .arrived else .late) ∧
            t.stateOf f = (if s.stateOf f = .rest then .rest else .parked) ∧ t.claimOf f = .none ∧
            t.holdOf f = e.target ∧ (t.fader f).record.planned = none ∧ (t.fader f).record.deadline = none ∧
            (t.fader f).record.expiry = none) ∧
        ((s.config f).arrivalWindow < Sys2Proof.dist (s.posOf f) e.target →
          t.recalls = s.recalls ∧ t.claimOf f = .recall r.tag i ∧ (old = .none → t.holdOf f = s.holdOf f) ∧
            (old.isFollow = true → t.roleOf f = s.roleOf f) ∧
            (t.fader f).record.planned = some planned ∧
            (t.fader f).record.deadline = some (planned + 6 * run.lateness) ∧
            (t.fader f).record.expiry = some (planned + 6 * run.lateness + 6 * run.expiry) ∧
            (s.stateOf f = .parked → t.stateOf f = if s.settings.heatTrip ≤ s.heatOf f then .rest
              else if f ∈ t.queue then .waiting else .travel) ∧
            (s.stateOf f = .waiting → t.stateOf f = .waiting ∧ t.queue = s.queue) ∧
            (s.stateOf f = .rest → t.stateOf f = .rest ∧ t.queue = s.queue ∧ (t.fader f).motion = (s.fader f).motion) ∧
            ((s.stateOf f = .travel ∨ s.stateOf f = .settle) → t.stateOf f = .travel ∧
              (t.fader f).motion.settleCount = 0 ∧ (t.fader f).motion.setpoint = setpoint ∧
              (t.fader f).motion.ramp = .running ⟨setpoint, e.target, s.now, if setpoint = e.target then 0 else
                max (ceilDiv (planned - s.now) 3)
                  (ceilDiv (2 * Sys2Proof.dist setpoint e.target) (s.config f).speedLimit)⟩)))

/-- FIRE (R107): it starts a head that is PENDING with FIRE; otherwise it starts nothing and changes nothing, and an
addressed one is answered NOTHING. WITHDRAW (R114): the oldest PENDING recall leaves without touching a fader or raising a
notice; where it was the head the start test is made on the recall behind it. With none PENDING it is NOTHING. -/
def Obligations.FireStartsAndWithdrawRemovesPending : Prop :=
  (∀ (d : Dest) (s : State), s.hears = true →
    let starts := fun r : Recall => s.recalls.head? = some r ∧ r.run = none ∧ r.condition = .fire
    (∀ r, starts r → exec (.fire d) s =
      .next (s.closed s.contact.startHead.settleRecalls d 21 .ok (.recallNamed r.tag r.page))) ∧
    ((∀ r, ¬starts r) → exec (.fire d) s = .next (s.closed s.contact d 21 .nothing .none))) ∧
  (∀ (s : State), s.hears = true →
    (s.recalls = [] → exec (.withdraw .addressed) s = .next (s.closed s.contact .addressed 22 .nothing .none)) ∧
    (∀ r run, s.recalls = [r] → r.run = some run →
      exec (.withdraw .addressed) s = .next (s.closed s.contact .addressed 22 .nothing .none)) ∧
    (∀ r run q rest, s.recalls = r :: q :: rest → r.run = some run → q.run = none →
      exec (.withdraw .addressed) s = .next (s.closed { s.contact with recalls := r :: rest } .addressed 22 .ok
        (.recallNamed q.tag q.page))) ∧
    (∀ r, s.recalls = [r] → r.run = none →
      exec (.withdraw .addressed) s = .next (s.closed { s.contact with recalls := [] } .addressed 22 .ok
        (.recallNamed r.tag r.page))) ∧
    ∀ r q, s.recalls = [r, q] → r.run = none → q.run = none →
      let left := { s.contact with recalls := [q] }
      let starts := q.condition = .now ∨ ∃ c, q.condition = .at c ∧ c ≤ s.timeline.count
      (¬starts → exec (.withdraw .addressed) s = .next (s.closed left .addressed 22 .ok (.recallNamed r.tag r.page))) ∧
      (starts → exec (.withdraw .addressed) s =
        .next (s.closed left.startHead.settleRecalls .addressed 22 .ok (.recallNamed r.tag r.page))))

/-- HALT (R115): a RUNNING head whose open entries hold their claims completes: every open entry is HALTED at its fader
record (R26), the fader holding its position without a claim, PARKED where it moved, and in its state otherwise; the
recall leaves the queue and its RECALL-END gives the outcomes. A recall queued behind it becomes head, and starts at once
where the start test finds it due (R106, R112). With none RUNNING it changes nothing. -/
def Obligations.HaltCompletesRunningRecall : Prop :=
  ∀ (d : Dest) (s : State), s.hears = true →
    ((∀ r run, s.recalls.head? = some r → r.run ≠ some run) →
      exec (.halt d) s = .next (s.closed s.contact d 23 .nothing .none)) ∧
    ∀ r run rest, s.recalls = r :: rest → (∀ q ∈ rest, q.run = none) → r.run = some run →
      run.outcomes.length = (s.page r.page).entries.length → ((s.page r.page).entries.map (·.fader)).Nodup →
      (∀ (i : Nat) (e : Entry), (s.page r.page).entries[i]? = some e → run.outcomes[i]? = some none →
        s.claimOf e.fader = .recall r.tag i ∧ (s.stateOf e.fader).phase = none) →
      let starts := ∃ q, rest.head? = some q ∧
        (q.condition = .now ∨ ∃ c, q.condition = .at c ∧ c ≤ s.timeline.count)
      ∃ u : State,
        (¬starts → exec (.halt d) s = .next (s.closed u d 23 .ok (.recallHalted r.tag))) ∧
        (starts → exec (.halt d) s = .next (s.closed u.startHead.settleRecalls d 23 .ok (.recallHalted r.tag))) ∧
        u.recalls = rest ∧ u.base = s.contact.base ∧
        Notice.recallEnd r.tag r.page false (((s.page r.page).entries.zip run.outcomes).map fun (e, o) =>
          (e.fader, o.getD .halted)) ∈ u.notices ∧
        ∀ (i : Nat) (e : Entry), (s.page r.page).entries[i]? = some e → run.outcomes[i]? = some none →
          u.claimOf e.fader = .none ∧ u.targetOf e.fader = s.posOf e.fader ∧ u.holdOf e.fader = s.posOf e.fader ∧
            (u.fader e.fader).record.planned = none ∧ (u.fader e.fader).record.deadline = none ∧
            (u.fader e.fader).record.expiry = none ∧
            u.stateOf e.fader = if (s.stateOf e.fader).moving then .parked else s.stateOf e.fader

/-! ## Timeline and lanes -/

/-- TRANSPORT (R124): RANGE, or the transport is set; RUN restarts the sync timer and, with source INTERNAL, sets the
generator phase; STOP changes nothing else; no count changes. TIME-SET (R126, R132): RANGE; an equal count changes
nothing; a higher one is a forward jump; a lower one is a backward jump, which, with no recall queued, leaves every
fader record alone and empties every lane's queue with a LANE notice, keeping every lane value. The reply carries the
seven Timeline items of Table 8-1 (R120), the timer held at three nominal frame periods (R122). The model's choices: the
timer is the time elapsed and the phase a time of the part's clock (log entry 37), and what the timer reads under source
INTERNAL and LINK (log entry 44). -/
def Obligations.TransportAndTimeSetActOnTimeline : Prop :=
  (∀ (d : Dest) (v : Nat) (s : State), s.hears = true →
    let answers := fun t : Timeline => exec (.transport d v) s = .next (s.closed { s.contact with timeline := t } d 27 .ok
      (.timeline ⟨s.timeline.count, t.run, s.settings.source, s.settings.frameRate, s.timeline.locked,
        min (s.now - t.syncStart) (3 * s.settings.frameRate.period), t.phase⟩))
    (2 ≤ v → exec (.transport d v) s = .next (s.closed s.contact d 27 .range .none)) ∧
      (v = 0 → s.settings.source ≠ .internal → answers { s.timeline with run := true, syncStart := s.now }) ∧
      (v = 0 → s.settings.source = .internal →
        answers { s.timeline with run := true, syncStart := s.now, phase := s.now, frames := 0 }) ∧
      (v = 1 → answers { s.timeline with run := false })) ∧
  (∀ (d : Dest) (n : Nat) (s : State), s.hears = true →
    (16777215 < n → exec (.timeSet d n) s = .next (s.closed s.contact d 26 .range .none)) ∧
    (n ≤ 16777215 →
      let u : State := { s.contact with timeline := { s.timeline with count := n } }
      let answers := fun t => exec (.timeSet d n) s = .next (s.closed t d 26 .ok
        (.timeline ⟨n, s.timeline.run, s.settings.source, s.settings.frameRate, s.timeline.locked,
          min (s.now - s.timeline.syncStart) (3 * s.settings.frameRate.period), s.timeline.phase⟩))
      (n = s.timeline.count → answers s.contact) ∧
      (s.timeline.count < n → answers (u.countChange true) ∧ (u.countChange true).base = u.base) ∧
      (n < s.timeline.count → answers u.backwardJump ∧ u.backwardJump.base = u.base ∧ (s.recalls = [] → ∀ f,
        (u.backwardJump.fader f).record = (s.fader f).record ∧
        (u.backwardJump.fader f).lane = { (s.fader f).lane with
          queue := [], current := none, segment := none, starved := false, lastTime := none } ∧
        ((s.fader f).lane.queue ≠ [] → Notice.lane f .flushed n ∈ u.backwardJump.notices)))))

/-- A lane at a count change (R129, R130): with no point due the value moves along the active segment, if any, and
nothing else changes; else the last due point is current, and a STEP, or a RAMP with no point after it, leaves its
position as the value, a RAMP so ending starved; a RAMP with a point after it lays a segment to that point. The value
along a segment is the nearest step to the straight line between its points, halves toward the to-point, and lies
between the two positions. A count change reaches every lane so, and the Recall Engine's start test after them (R121;
log entry 14): a changed value of an enabled lane whose claim is not suspended becomes the target of a fader that takes
claims, with the chase glide after a forward jump and no planned arrival otherwise (R131, R133), and the fader acts by
R18 and R45. -/
def Obligations.LaneTakesCountChange : Prop :=
  (∀ (l : Lane) (count : Nat), l.inForm count → ∀ n, count < n →
    let due := l.queue.filter fun p => decide (p.time ≤ n)
    let left := l.queue.filter fun p => decide (n < p.time)
    (due = [] → l.step n = ({ l with value := match l.segment with
      | some g => some (g.valueAt n)
      | none => l.value }, false)) ∧
    ∀ p, due.getLast? = some p →
      (p.shape = .step → l.step n = ({ l with
        queue := left, current := some .step, lastTime := some p.time, value := some p.pos, segment := none }, false)) ∧
      (p.shape = .ramp → left = [] → l.step n = ({ l with
        queue := [], current := some .ramp, lastTime := some p.time, value := some p.pos, segment := none,
        starved := true }, true)) ∧
      (p.shape = .ramp → ∀ q rest, left = q :: rest → l.step n = ({ l with
        queue := left, current := some .ramp, lastTime := some p.time,
        value := some ((⟨p.time, p.pos, q.time, q.pos⟩ : Segment).valueAt n),
        segment := some ⟨p.time, p.pos, q.time, q.pos⟩ }, false))) ∧
  (∀ (g : Segment) (n : Nat), g.fromTime < g.toTime → g.fromTime ≤ n → n ≤ g.toTime →
    let d : Int := (g.toTime : Int) - g.fromTime
    let line : Int := (g.fromPos : Int) * d + ((g.toPos : Int) - g.fromPos) * ((n : Int) - g.fromTime)
    let v : Int := g.valueAt n
    (g.fromPos ≤ g.toPos → 2 * line - d < 2 * (v * d) ∧ 2 * (v * d) ≤ 2 * line + d ∧ g.fromPos ≤ v ∧ v ≤ g.toPos) ∧
      (g.toPos ≤ g.fromPos → 2 * line - d ≤ 2 * (v * d) ∧ 2 * (v * d) < 2 * line + d ∧ g.toPos ≤ v ∧ v ≤ g.fromPos) ∧
      (n = g.toTime → g.valueAt n = g.toPos) ∧ (n = g.fromTime → g.valueAt n = g.fromPos)) ∧
  ∀ (s : State) (jump : Bool),
    (s.startFound .countChange = true → s.countChange jump =
      (allFaders.foldl (fun u f => u.laneCount f jump) s).startHead.settleRecalls) ∧
    (s.startFound .countChange = false → s.recallsOpen →
      let t := s.countChange jump
      t.base = s.base ∧ t.recalls = s.recalls ∧ ∀ f : FaderIx,
        let l := (s.fader f).lane
        let x := l.step s.timeline.count
        let handed := l.enabled = true ∧ s.claimOf f = .lane false ∧ (s.stateOf f).takesClaims = true ∧ x.1.value ≠ l.value
        (t.fader f).lane = x.1 ∧ t.claimOf f = s.claimOf f ∧
          (x.2 = true → Notice.lane f .starved s.timeline.count ∈ t.notices) ∧
          (¬handed → t.targetOf f = s.targetOf f ∧ t.holdOf f = s.holdOf f ∧
            (t.fader f).record.planned = (s.fader f).record.planned) ∧
          ∀ v, handed → x.1.value = some v →
            let near := Sys2Proof.dist (s.posOf f) v ≤ (s.config f).arrivalWindow
            let setpoint := (s.fader f).motion.setpoint
            t.targetOf f = v ∧ (t.fader f).record.planned = (if jump then some (s.now + 6 * l.chase) else none) ∧
              (s.stateOf f = .rest → t.stateOf f = .rest) ∧
              (v ≠ s.targetOf f → s.stateOf f = .parked → near → t.stateOf f = .parked ∧ t.holdOf f = v) ∧
              (v ≠ s.targetOf f → s.stateOf f = .parked → ¬near → s.heatOf f < s.settings.heatTrip →
                t.stateOf f = if f ∈ t.queue then .waiting else .travel) ∧
              (v ≠ s.targetOf f → (s.stateOf f = .travel ∧ s.justGranted f = false ∨ s.stateOf f = .settle) →
                t.stateOf f = .travel ∧ (t.fader f).motion.settleCount = 0 ∧
                (t.fader f).motion.ramp = .running ⟨setpoint, v, s.now, if setpoint = v then 0 else
                  max (if jump then ceilDiv (6 * l.chase) 3 else 0)
                    (ceilDiv (2 * Sys2Proof.dist setpoint v) (s.config f).speedLimit)⟩))

/-- LANE-ENABLE (R134): RANGE; on an enabled lane only the chase glide; FAULTED, CALIBRATING and RECALL-ACTIVE leave the
lane unchanged; in TOUCHED the claim is suspended; in the other states the fader takes the LANE claim, toward the lane
value where there is one. LANE-DISABLE (R135): RANGE; an enabled lane is disabled and emptied and its claim ends, the
fader holding its position; a disabled lane is emptied and keeps its value. -/
def Obligations.LaneEnableAndDisable : Prop :=
  (∀ (s : State), s.hears = true →
    (∀ n c, (16 ≤ n ∨ ∃ x, c = some x ∧ 10000 < x) →
      exec (.laneEnable .addressed n c) s = .next (s.closed s.contact .addressed 29 .range .none)) ∧
    ∀ (f : FaderIx) (c : Option Nat), (∀ x, c = some x → x ≤ 10000) →
      let answers := fun t st => exec (.laneEnable .addressed f.val c) s = .next (s.closed t .addressed 29 st .none)
      let set := fun l : Lane => { l with enabled := true, chase := c.getD l.chase }
      ((s.fader f).lane.enabled = true → answers (s.contact.modLane f set) .ok) ∧
      ((s.fader f).lane.enabled = false →
        (s.stateOf f = .faulted → answers s.contact .faulted) ∧
        (∀ p, s.stateOf f = .calibrating p → answers s.contact .calibrating) ∧
        (s.stateOf f = .touched →
          answers ((s.contact.modLane f set).modRecord f fun r => { r with claim := .lane true }) .ok) ∧
        ((s.stateOf f).takesClaims = true →
          ((s.claimOf f).isRecall = true → answers s.contact .recallActive) ∧
          ((s.claimOf f).isRecall = false → (s.claimOf f).isLane = false → ∃ t, answers t .ok ∧ t.claimOf f = .lane false ∧
            (t.fader f).lane = set (s.fader f).lane ∧ t.base = s.contact.base ∧
            t.targetOf f = ((s.fader f).lane.value.getD (s.posOf f)) ∧
            (s.claimOf f = .direct → Notice.motion f .direct .superseded (s.posOf f) false ∈ t.notices))))) ∧
  (∀ (s : State), s.hears = true →
    (∀ n, 16 ≤ n → exec (.laneDisable .addressed n) s = .next (s.closed s.contact .addressed 30 .range .none)) ∧
    ∀ f : FaderIx,
      ((s.fader f).lane.enabled = false → exec (.laneDisable .addressed f.val) s = .next (s.closed
        (s.contact.modLane f fun l => { l with queue := [], current := none, segment := none, starved := false })
        .addressed 30 .ok .none)) ∧
      ((s.fader f).lane.enabled = true → (s.claimOf f).isLane = true → (s.stateOf f).phase = none →
        ∃ t, exec (.laneDisable .addressed f.val) s = .next t ∧
        t.link.reply = some ⟨s.link.address, 30, .ok, .none, s.link.rate⟩ ∧
        (t.fader f).lane = { (s.fader f).lane with
          enabled := false, queue := [], current := none, value := none, segment := none, starved := false } ∧
        t.claimOf f = .none ∧ t.targetOf f = s.posOf f ∧ t.holdOf f = s.posOf f ∧
        t.stateOf f = (if (s.stateOf f).moving then .parked else s.stateOf f) ∧ t.base = { s.base with link := t.link }))

/-- POINTS (R128, R130): RANGE, ORDER, LATE and FULL in that order; else the points join the tail, and a starved lane lays
a segment from its held value to the first of them. -/
def Obligations.PointsAreTakenWholeOrRefusedWhole : Prop :=
  ∀ (n : Nat) (l : List PointOperand) (s : State), s.hears = true →
    let answers := fun st => exec (.points .addressed n l) s = .next (s.closed s.contact .addressed 31 st .none)
    let bad := 16 ≤ n ∨ l = [] ∨ 8 < l.length ∨ ∃ p ∈ l, 16777215 < p.time ∨ 1023 < p.position ∨ 2 ≤ p.shape
    (bad → answers .range) ∧
    ∀ (f : FaderIx) (a : PointOperand) (rest : List PointOperand), n = f.val → l = a :: rest → ¬bad →
      let x := (s.fader f).lane
      let inOrder := (l.map (·.time)).Pairwise (· < ·) ∧ (∀ q, x.queue.getLast? = some q → q.time < a.time) ∧
        ∀ t, x.lastTime = some t → t < a.time
      (¬inOrder → answers .order) ∧ (inOrder → a.time ≤ s.timeline.count → answers .late) ∧
      (inOrder → s.timeline.count < a.time → 16 < x.queue.length + l.length → answers .full) ∧
      (inOrder → s.timeline.count < a.time → x.queue.length + l.length ≤ 16 →
        exec (.points .addressed n l) s = .next (s.closed (s.contact.modLane f fun y => { y with
          queue := y.queue ++ l.map fun p => (⟨p.time, p.position, if p.shape = 0 then .step else .ramp⟩ : Point)
          starved := false
          segment := if y.starved = true ∧ y.value ≠ none then
            some ⟨s.timeline.count, y.value.getD 0, a.time, a.position⟩ else y.segment })
          .addressed 31 .ok (.queued (x.queue.length + l.length))))

/-! ## Meters -/

/-- METER-SET (R140): RANGE for an empty set or a value outside Table 9-1; else every present setting is written to
every meter of the set, a mode bringing its own fall interval where none is carried, and to no other meter. Accumulator,
clip-seen, bar and image stand; so does the pair link of a pair that is not named, or of a request that carries none. A
pair that becomes LINKED shares the louder hold, HOLDING from the start, and a lamp lit where either was; otherwise hold
and lamp stand, on unlinking as each meter's own, but that an overload hold changed away from LATCHED restarts the timer
of a lit lamp: of the meter, or of the pair where M2k is the meter so changed. Read from R140 (log entry 25): that a
mode that is present clears the fall counter even where it is the mode in force, and that the overload hold of M2k+1
restarts no timer of a LINKED pair. Where one request ends LATCHED on M2k and unlinks the pair, R140 gives no order;
that the lamp timer of M2k+1 restarts with it, by the link as it stood before the request, is the model's choice (log
entry 25). -/
def Obligations.MeterSetWritesPresentSettings : Prop :=
  ∀ (set : BitVec 32) (o : MeterSetOperand) (s : State), s.hears = true →
    let ok := (∀ n, o.mode = some n → n ≤ 2) ∧ (∀ n, o.source = some n → n ≤ 1) ∧ (∀ n, o.scaleTable = some n → n ≤ 1) ∧
      (∀ n, o.fallInterval = some n → 1 ≤ n ∧ n ≤ 64) ∧
      (∀ n, o.holdTime = some n → n = 65535 ∨ n ≤ 10000 ∧ n % 50 = 0) ∧
      (∀ n, o.overloadHold = some n → n = 65535 ∨ n ≤ 10000 ∧ n % 5 = 0) ∧ (∀ n, o.threshold = some n → n ≤ 255) ∧
      (∀ n, o.pairLink = some n → n ≤ 1)
    ((set = 0#32 ∨ ¬ok) →
      exec (.meterSet .addressed set o) s = .next (s.closed s.contact .addressed 33 .range .none)) ∧
    (set ≠ 0#32 → ok → ∃ t, exec (.meterSet .addressed set o) s = .next t ∧
      (∀ m : MeterIx, set.getLsbD m.val = false → t.meterConfig m = s.meterConfig m) ∧
      (∀ m : MeterIx, set.getLsbD m.val = true → t.meterConfig m =
        { mode := match o.mode with
            | some 0 => .peak
            | some 1 => .programme
            | some _ => .average
            | none => (s.meterConfig m).mode
          source := match o.source with
            | some 0 => .stream
            | some _ => .link
            | none => (s.meterConfig m).source
          table := match o.scaleTable with
            | some 0 => .a
            | some _ => .b
            | none => (s.meterConfig m).table
          fallInterval := match o.fallInterval, o.mode with
            | some n, _ => n
            | none, some 0 => 4
            | none, some 1 => 5
            | none, _ => (s.meterConfig m).fallInterval
          holdTime := match o.holdTime with
            | some n => if n = 65535 then none else some n
            | none => (s.meterConfig m).holdTime
          overloadHold := match o.overloadHold with
            | some n => if n = 65535 then none else some n
            | none => (s.meterConfig m).overloadHold
          threshold := o.threshold.getD (s.meterConfig m).threshold } ∧
        (∀ n, o.pairLink = some n → t.linked m = decide (n = 1)) ∧ (o.mode ≠ none → (t.meter m).fall = 0)) ∧
      (∀ m : MeterIx, (t.meter m).acc = (s.meter m).acc ∧ (t.meter m).clip = (s.meter m).clip ∧
        (t.meter m).bar = (s.meter m).bar ∧ (t.meter m).shown = (s.meter m).shown ∧
        ((o.pairLink = none ∨ set.getLsbD (lower m).val = false ∧ set.getLsbD (upper m).val = false) →
          t.linked m = s.linked m)) ∧
      (∀ m : MeterIx,
        let x := s.meter (lower m)
        let y := s.meter (upper m)
        let joins := o.pairLink = some 1 ∧ s.linked m = false ∧
          (set.getLsbD (lower m).val = true ∨ set.getLsbD (upper m).val = true)
        let unlatched := fun k : MeterIx => set.getLsbD k.val = true ∧ (s.meterConfig k).overloadHold = none ∧
          (t.meterConfig k).overloadHold ≠ none
        (joins → (t.meter m).hold = min x.hold y.hold ∧ (t.meter m).holdState = .holding ∧ (t.meter m).holdElapsed = 0 ∧
          (t.meter m).lamp = (x.lamp || y.lamp) ∧ (t.meter m).lampElapsed = 0) ∧
        (¬joins → (t.meter m).holdItems = (s.meter m).holdItems ∧ (t.meter m).lamp = (s.meter m).lamp ∧
          (¬unlatched (lower m) → ¬unlatched (upper m) → (t.meter m).lampElapsed = (s.meter m).lampElapsed) ∧
          ((s.meter m).lamp = true → unlatched (if s.linked m then lower m else m) → (t.meter m).lampElapsed = 0) ∧
          (s.linked m = true → o.pairLink ≠ some 0 → ¬unlatched (lower m) →
            (t.meter m).lampElapsed = (s.meter m).lampElapsed))) ∧
      t.link.reply = some ⟨s.link.address, 33, .ok,
        .meters ((allMeters.filter fun m => set.getLsbD m.val).map fun m =>
          ⟨t.meterConfig m, t.linked m, (t.meter m).shown⟩), s.link.rate⟩ ∧
      t.faders = s.faders ∧ t.settings = { s.settings with meters := t.settings.meters, pairs := t.settings.pairs })

/-- LEVELS (R141, R142): RANGE; else each entry whose meter has source LINK makes its accumulator the louder and sets
clip-seen, the others are passed over, and the reply counts the entries taken. HOLD-CLEAR (R151): an empty set is RANGE,
or nothing when broadcast; else each meter of the set has its hold at its bar, or at the louder bar of its linked pair,
HOLDING from the start, and its lamp off; bars, accumulators and the image stand. -/
def Obligations.LevelsFeedMetersAndHoldClearDropsHolds : Prop :=
  (∀ (l : List LevelOperand) (s : State), s.hears = true →
    let bad := l = [] ∨ 32 < l.length ∨ ∃ e ∈ l, 32 ≤ e.meter ∨ 255 < e.level ∨ 2 ≤ e.clip
    let fed := fun e : LevelOperand => match meterOf e.meter with
      | some m => decide ((s.meterConfig m).source = .link)
      | none => false
    (bad → exec (.levels .addressed l) s = .next (s.closed s.contact .addressed 35 .range .none)) ∧
    (¬bad → ∃ t, exec (.levels .addressed l) s = .next t ∧
      t = s.closed { s.contact with meters := t.meters } .addressed 35 .ok (.taken (l.countP fed)) ∧
      (∀ m : MeterIx, (s.meterConfig m).source = .stream → t.meter m = s.meter m) ∧
      (∀ m : MeterIx, (s.meterConfig m).source = .link → t.meter m = { s.meter m with
        acc := (l.filter fun e => e.meter = m.val).foldl (fun a e => min a e.level) (s.meter m).acc
        clip := (s.meter m).clip || l.any fun e => decide (e.meter = m.val ∧ e.clip = 1) }))) ∧
  (∀ (d : Dest) (set : BitVec 32) (s : State), s.hears = true →
    (set = 0#32 → exec (.holdClear d set) s = .next (s.closed s.contact d 36 .range .none)) ∧
    (set ≠ 0#32 → ∃ t, exec (.holdClear d set) s = .next t ∧
      t = s.closed { s.contact with meters := t.meters } d 36 .ok
        (.shown ((allMeters.filter fun m => set.getLsbD m.val).map fun m => (s.meter m).shown)) ∧
      ∀ m : MeterIx,
        let named := set.getLsbD m.val = true ∨
          s.linked m = true ∧ (set.getLsbD (lower m).val = true ∨ set.getLsbD (upper m).val = true)
        (¬named → t.meter m = s.meter m) ∧
        (named → t.meter m = { s.meter m with
          hold := if s.linked m then min (s.meter (lower m)).bar (s.meter (upper m)).bar else (s.meter m).bar
          holdState := .holding, holdElapsed := 0, lamp := false, lampElapsed := 0 })))

/-- RECALL-SET, BRIGHTNESS, STREAM-SET, SCALE-LOAD and LINK-SET (R116, R150, R152, R148, R162): RANGE (NOT-MONOTONIC for
a table that does not fall strictly), else the working settings named are written and nothing else but the line changes;
a LINK-SET restarts the supervision timer, its rate in force at once when broadcast and from the reply's end when
addressed. TIME-SOURCE (R125, R121, R122): RANGE, or source and rate are written; EXTERNAL restarts the sync timer and
keeps the sync state, another source is LOCKED, and INTERNAL sets the generator phase while the transport is RUN, and
while it is STOP keeps it, the next event falling at the first whole period of the rate carried after the present time
(log entry 28); count and transport are kept. The model's choices: a SCALE-LOAD that is both out of range and not
monotonic is RANGE (log entry 41); the form of sync timer and generator phase in the reply of TIME-SOURCE, which carries
the seven items of Table 8-1 (log entry 37), and what the timer reads under INTERNAL and LINK (log entry 44); and the
sync timer restarts in every EXTERNAL case, source or rate changed or not (log entry 40). -/
def Obligations.PlainSettingsAreWritten : Prop :=
  (∀ (s : State), s.hears = true →
    (∀ x y, exec (.recallSet .addressed x y) s = .next (
      if x ≤ 1000 ∧ 500 ≤ y ∧ y ≤ 10000 then
        s.closed { s.contact with settings := { s.settings with lateness := x, recallExpiry := y } } .addressed 24 .ok .none
      else s.closed s.contact .addressed 24 .range .none)) ∧
    (∀ d v, exec (.brightness d v) s = .next (
      if v ≤ 15 then s.closed { s.contact with settings := { s.settings with brightness := v } } d 37 .ok .none
      else s.closed s.contact d 37 .range .none)) ∧
    (∀ v, exec (.streamSet .addressed v) s = .next (
      if v ≤ 32 then s.closed { s.contact with settings := { s.settings with baseSlot := v } } .addressed 38 .ok .none
      else s.closed s.contact .addressed 38 .range .none)) ∧
    (∀ (n : Nat) (v : Vector Nat 40),
      ((2 ≤ n ∨ ∃ x ∈ v.toList, 255 < x) →
        exec (.scaleLoad .addressed n v) s = .next (s.closed s.contact .addressed 34 .range .none)) ∧
      (n < 2 → (∀ x ∈ v.toList, x ≤ 255) → ¬v.toList.Pairwise (· > ·) →
        exec (.scaleLoad .addressed n v) s = .next (s.closed s.contact .addressed 34 .notMonotonic .none)) ∧
      (n < 2 → scaleInForm v → exec (.scaleLoad .addressed n v) s = .next (s.closed
        { s.contact with settings := if n = 0 then { s.settings with scaleA := v } else { s.settings with scaleB := v } }
        .addressed 34 .ok .none))) ∧
    ∀ d x n,
      ((3 ≤ n ∨ ¬(x = 0 ∨ 100 ≤ x ∧ x ≤ 5000 ∧ x % 100 = 0)) →
        exec (.linkSet d x n) s = .next (s.closed s.contact d 39 .range .none)) ∧
      ∀ rate, linkRateOf n = some rate → (x = 0 ∨ 100 ≤ x ∧ x ≤ 5000 ∧ x % 100 = 0) →
        exec (.linkSet d x n) s = .next (s.closed { s.contact with
          settings := { s.settings with linkTimeout := x, linkRate := rate }
          link := { s.contact.link with supStart := s.now, rate := if d = .broadcast then rate else s.link.rate } }
          d 39 .ok .none)
) ∧
  (∀ (x n : Nat) (s : State), s.hears = true →
    ((3 ≤ x ∨ n ∉ [24, 25, 30, 50, 60]) →
      exec (.timeSource .addressed x n) s = .next (s.closed s.contact .addressed 28 .range .none)) ∧
    ∀ (source : Source) (rate : FrameRate), sourceOf x = some source → frameRateOf n = some rate →
      let t : Timeline := match source with
        | .external => { s.timeline with syncStart := s.now }
        | .internal => { s.timeline with
            locked := true
            phase := if s.timeline.run then s.now else s.timeline.phase
            frames := if s.timeline.run then 0 else (s.now - s.timeline.phase) / rate.period }
        | .link => { s.timeline with locked := true }
      exec (.timeSource .addressed x n) s = .next (s.closed
        { s.contact with settings := { s.settings with source := source, frameRate := rate }, timeline := t } .addressed 28
        .ok (.timeline ⟨s.timeline.count, s.timeline.run, source, rate, t.locked,
          min (s.now - t.syncStart) (3 * rate.period), t.phase⟩)) ∧
      (source = .internal → s.timeline.run = false → s.timeline.phase ≤ s.now →
        s.timeline.phase + t.frames * rate.period ≤ s.now ∧
        s.now < s.timeline.phase + (t.frames + 1) * rate.period))

/-! ## Notices, the profile and RESTART -/

/-- A raise whose key is not pending joins the tail; one whose key is pending refreshes it in place, a LINK notice
keeping a teardown mark once set (R164). COLLECT (R165, R166): RANGE outside 1-16; else records are placed from the head
while they fit the 126 bytes left, each with the fields its owners hold at that moment, and each removal acts on its
source: a CAPTURE empties the captures, MOVE and MOTION set the last reported position and repeat the MOVE test. That a
MOVE so raised afresh may be placed a second time in the same reply is the model's choice (log entry 43). A record is
its kind, its source (the fader, the tag, or 0), the content's length and the content of Table 10-6: numbers least
significant byte first, an enumerated value its place in Table 10-7, an absent optional field all ones. The model's
choice: a set clamped or not-started mark is the byte 1 (log entry 46), and a bit 10-8 does not name is sent as 0 (log
entry 47). -/
def Obligations.NoticesAreRefreshedAndCollectedInOrder : Prop :=
  (∀ (n : Notice) (l : List Notice), n.key ∉ l.map Notice.key → raiseInto n l = l ++ [n]) ∧
  (∀ (n m : Notice) (a b : List Notice), n.key ∉ a.map Notice.key → m.key = n.key →
    raiseInto n (a ++ m :: b) = a ++ (match n, m with
      | .link e x, .link _ y => Notice.link e (x || y)
      | n, _ => n) :: b) ∧
  (∀ (s : State), s.hears = true →
    (∀ k, (k < 1 ∨ 16 < k) → exec (.collect .addressed k) s = .next (s.closed s.contact .addressed 40 .range .none)) ∧
    ∀ k, 1 ≤ k → k ≤ 16 →
      let a := assemble k 126 s.contact
      a.placed ≤ k ∧ a.bytes.length ≤ 126 ∧ exec (.collect .addressed k) s = .next (s.closed a.st .addressed 40 .ok (.bytes
        (BitVec.ofNat 8 (a.placed + if a.st.notices = [] then 0 else 128) :: a.bytes)))) ∧
  (∀ (k room : Nat) (n : Notice) (rest : List Notice) (s : State), s.notices = n :: rest →
    (room < (s.noticeRecord n).length → assemble (k + 1) room s = ⟨s, [], 0⟩) ∧
    ((s.noticeRecord n).length ≤ room →
      let a := assemble k (room - (s.noticeRecord n).length) ({ s with notices := rest }.delivered n)
      assemble (k + 1) room s = ⟨a.st, s.noticeRecord n ++ a.bytes, a.placed + 1⟩)) ∧
  ∀ (f : FaderIx) (s : State),
    (s.delivered (.capture f) = s.modTouch f fun t => { t with captures := [], lost := false }) ∧
      (s.delivered (.move f) = (s.modRecord f fun r => { r with lastReported := s.posOf f }).moveTest f) ∧
      (∀ k o pos c, s.delivered (.motion f k o pos c) =
        (s.modRecord f fun r => { r with lastReported := pos }).moveTest f) ∧
      (∀ c, s.delivered (.fault f c) = if (s.fader f).fault.latched.isEmpty then
        s.modFault f fun x => { x with lastLatch := none } else s) ∧
      let x := s.fader f
      let byte := fun n => BitVec.ofNat 8 n
      let two := fun n => [byte n, byte (n / 256)]
      let three := fun n => [byte n, byte (n / 256), byte (n / 65536)]
      let optional := fun o : Option Nat => two (o.getD 65535)
      let bit := fun (b : Bool) (w : Nat) => if b then w else 0
      let conditions := fun c : CondSet => byte (bit c.stall 1 + bit c.track 2 + bit c.overcurrent 4)
      let outcome := fun o => byte ([Outcome.arrived, .late, .overridden, .superseded, .halted, .faulted, .skipped,
        .expired, .linklost].idxOf o)
      let record := fun (n : Notice) (kind source : Nat) (content : List Byte) =>
        s.noticeRecord n = byte kind :: byte source :: byte content.length :: content
      record (.move f) 0 f.val (two x.track.pos) ∧
      record (.capture f) 1 f.val (byte (x.touch.captures.length + bit x.touch.lost 128) ::
        x.touch.captures.flatMap fun c => byte (bit (!c.on) 1) :: two c.pos ++ three c.count) ∧
      (∀ k o pos c, record (.motion f k o pos c) 2 f.val
        (byte (if k = .direct then 1 else 4) :: outcome o :: two pos ++ [byte (bit c 1)])) ∧
      (∀ c, record (.fault f c) 3 f.val (byte ([Cond.stall, .track, .overcurrent].idxOf c) ::
        conditions x.fault.latched :: conditions x.fault.current :: two x.track.pos)) ∧
      (∀ entered c, record (.rest f entered c) 4 f.val (byte (bit (!entered) 1) ::
        byte ([RestCause.heat, .release, .cooled, .touch, .fault].idxOf c) :: two x.heat.heat)) ∧
      (∀ reason count, record (.lane f reason count) 5 f.val
        (byte ([LaneReason.release, .recall, .fault, .link, .flushed, .starved].idxOf reason) :: three count ++
          [byte (bit x.lane.enabled 1 + bit x.lane.value.isSome 2), byte x.lane.queue.length] ++ optional x.lane.value)) ∧
      (∀ o p low high span, record (.cal f o p low high span) 6 f.val
        ([byte ([CalOutcome.ready, .badSpan, .timeout, .touched, .faulted, .linklost].idxOf o),
          byte ([CalPhase.calWait, .calDown, .calUp, .calReview].idxOf p),
          byte (bit low.isSome 1 + bit high.isSome 2 + bit span.isSome 4)] ++ optional low ++ optional high ++
          optional (span.map fun i => (i % 65536).toNat))) ∧
      (∀ tag p b items, record (.recallEnd tag p b items) 7 tag ([byte p.val, byte (bit b 1), byte items.length] ++
        items.flatMap fun y => [byte y.1.val, outcome y.2])) ∧
      (∀ b, record (.stream b) 8 0 [byte (bit b 1)]) ∧ (∀ b count, record (.sync b count) 9 0 (byte (bit b 1) :: three count)) ∧
      (∀ e b, record (.link e b) 10 0 [byte ([LinkEvent.lost, .restored, .duplicate].idxOf e),
        byte (bit b 1 + bit s.link.duplicate 2)]) ∧
      (∀ y, record (.profile y) 11 0 [byte ([ProfileResult.stored, .failed, .defaults].idxOf y)]) ∧
      ∀ c, record (.started c) 12 0 [byte ([StartedCause.power, .restart].idxOf c)]

/-- STORE and its end (R168): STORE-BUSY while STORING, else the working settings are the snapshot being written; at the
end the store is IDLE and holds the snapshot, STORED with an agreeing check value or FAILED without one, and PROFILE is
raised. The working settings are never changed by it. The model's choice: after FAILED the store keeps the snapshot as
contents with the check value the command carries (log entry 26), and STORE_END falls at the present time (log entry 3).
-/
def Obligations.StoreWritesSnapshotOfSettings : Prop :=
  (∀ s : State, s.hears = true →
    (s.storing ≠ none → exec (.store .addressed) s = .next (s.closed s.contact .addressed 42 .storeBusy .none)) ∧
    (s.storing = none → exec (.store .addressed) s = .next
      (s.closed { s.contact with storing := some s.settings } .addressed 42 .accepted .none))) ∧
  ∀ (s : State) (c : Settings), s.part = .ready → s.storing = some c →
    exec (.storeEnd none) s = .next { s with
      storing := none
      stored := ⟨c, crc (Config.profileBytes c), true⟩
      profileValid := true
      notices := raiseInto (.profile .stored) s.notices } ∧
    ∀ x, exec (.storeEnd (some x)) s = .next { s with
      storing := none
      stored := ⟨c, x, false⟩
      profileValid := false
      notices := raiseInto (.profile .failed) s.notices }

/-- RESTART (R170): STORE-BUSY while STORING; else every block is cleared: every fader PARKED at its position with heat
and heat window kept and its next sample a first sample, no group, page entry or recall, count 0 and STOP, meters
silent, the duplicate mark clear, STARTED the only notice; settings, stored profile, address and clock are kept. That
the drive level of the most recent sample, which DRIVE-READ reports, stands over a RESTART is the model's choice (log
entry 42), as is that the cleared generator phase is 0, with the whole frame periods the clock has behind it (log entry
49). That no stream frame is open afterwards, so that the next sync only opens one, is read from R154 and R152 (log
entry 30). -/
def Obligations.RestartClearsEveryBlockButSettingsAndHeat : Prop :=
  ∀ (d : Dest) (s : State), s.hears = true →
    (s.storing ≠ none → exec (.restart d) s = .next (s.closed s.contact d 43 .storeBusy .none)) ∧
    (s.storing = none → ∃ u, exec (.restart d) s = .next (s.closed u d 43 .ok .none) ∧
      u.part = s.part ∧ u.now = s.now ∧ u.settings = s.settings ∧ u.stored = s.stored ∧ u.profileValid = s.profileValid ∧
      u.pending = s.pending ∧
      (∀ f, (u.fader f).heat = (s.fader f).heat ∧ (u.fader f).track = { (s.fader f).track with first := true } ∧
        u.stateOf f = .parked ∧ u.claimOf f = .none ∧ u.targetOf f = s.posOf f ∧ u.holdOf f = s.posOf f ∧
        (u.fader f).record.lastReported = s.posOf f ∧ (u.fader f).motion = ⟨s.posOf f, .none, 0, 0, none⟩ ∧
        (u.fader f).touch.on = false ∧ (u.fader f).touch.captures = [] ∧ (u.fader f).fault = FaultItems.reset ∧
        (u.fader f).cal = none ∧ (u.fader f).lane = Lane.reset) ∧
      u.queue = [] ∧ (∀ g, u.group g = none) ∧ (∀ p, u.page p = Page.empty) ∧ u.recalls = [] ∧
      u.timeline = ⟨0, false, true, s.now, 0, s.now / s.settings.frameRate.period⟩ ∧ (∀ m, u.meter m = Meter.reset) ∧
      u.stream = ⟨true, s.now, false⟩ ∧ u.scanner = s.scanner ∧
      u.link = { s.link with lost := false, supStart := s.now, duplicate := false } ∧ u.notices = [.started .restart])

/-! ## The line byte by byte (R155 to R158, R161) -/

/-- The check value (R156): a string of bytes followed by its check value, high byte first, has check value 0; so the
last byte of a frame of the length it names makes the frame taken as a valid one where the value agrees, and discarded
where it does not. Before it, a byte in READY opens a frame, the kind byte and a length byte of at most 128 join it, and
so does every byte up to the first check byte; a low stop bit or a length above 128 abandons it. -/
def Obligations.BytesGatherIntoCheckedFrames : Prop :=
  (∀ b : List Byte, crc (b ++ checkBytes (crc b)) = 0#16) ∧
  ∀ s : State, s.part = .ready →
    (∀ b, s.link.receiver = .ready → exec (.byteArrival b false) s = .next
      { s with link := { s.link with receiver := .inFrame, bytes := [b] } }) ∧
    (∀ b, (s.link.receiver = .ready ∨ s.link.receiver = .inFrame) →
      exec (.byteArrival b true) s = .next { s with link := { s.link with receiver := .waitIdle, bytes := [] } }) ∧
    (∀ b low, (s.link.receiver = .waitIdle ∨ s.link.receiver = .replying) → exec (.byteArrival b low) s = .next s) ∧
    (s.link.receiver = .inFrame → ∀ (a k len b : Byte) (payload : List Byte),
      (s.link.bytes = [a] →
        exec (.byteArrival b false) s = .next { s with link := { s.link with bytes := [a, b] } }) ∧
      (s.link.bytes = [a, k] → b.toNat ≤ 128 →
        exec (.byteArrival b false) s = .next { s with link := { s.link with bytes := [a, k, b] } }) ∧
      (s.link.bytes = [a, k] → 128 < b.toNat →
        exec (.byteArrival b false) s = .next { s with link := { s.link with receiver := .waitIdle, bytes := [] } }) ∧
      (s.link.bytes = a :: k :: len :: payload → len.toNat ≤ 128 → payload.length < len.toNat + 1 →
        exec (.byteArrival b false) s = .next { s with link := { s.link with bytes := s.link.bytes ++ [b] } }) ∧
      ∀ c, s.link.bytes = a :: k :: len :: payload ++ [c] → payload.length = len.toNat → len.toNat ≤ 128 →
        exec (.byteArrival b false) s = (if [c, b] = checkBytes (crc (a :: k :: len :: payload)) then
          exec (.foreignFrame a k payload) s else exec .badCheckFrame s))

/-- The other events of the line: idle opens the receiver, a gap abandons a frame, a frame whose check value differs is
discarded without a word (R155, R156), and the reply raises DIR and lowers it, the rate last set then in force and the
receiver in WAIT-IDLE (R158, R162). Nothing else changes, so none of these counts for supervision. A frame of another
address is ignored, another part's reply at the own address sets the duplicate mark and raises LINK, and a code that
names no kind is answered UNKNOWN-KIND or, broadcast, ignored; the last counts for supervision (R157, R161). -/
def Obligations.LineEventsMoveTheReceiver : Prop :=
  ∀ s : State, s.part = .ready →
    let idle := { s.link with receiver := .waitIdle, bytes := [] }
    (s.link.receiver = .waitIdle → exec .frameOpeningIdle s =
      .next { s with link := { s.link with receiver := .ready, bytes := [] } }) ∧
    (s.link.receiver = .inFrame → exec .frameGapAbandon s = .next { s with link := idle }) ∧
    (s.hears = true → exec .badCheckFrame s = .next { s with link := idle }) ∧
    (s.link.receiver = .replying → s.link.dir = false →
      exec .replyStart s = .next { s with link := { s.link with dir := true } }) ∧
    (s.link.receiver = .replying → s.link.dir = true →
      exec .replyEnd s = .next { s with link := { s.link with
        dir := false, receiver := .waitIdle, bytes := [], reply := none, rate := s.settings.linkRate } }) ∧
    (s.hears = true →
      exec .duplicateAddressReply s = .next { s with
        link := { idle with duplicate := true }, notices := raiseInto (.link .duplicate false) s.notices } ∧
      (∀ (a k : Byte) (p : List Byte), a.toNat < 31 → a.toNat ≠ s.link.address → s.link.address < 31 →
        exec (.foreignFrame a k p) s = .next { s with link := idle }) ∧
      ∀ (k : Byte) (p : List Byte), (k = 0#8 ∨ 43 < k.toNat) →
        exec (.unknownKind .addressed k p) s = .next (s.closed s.contact .addressed k.toNat .unknownKind .none) ∧
        exec (.unknownKind .broadcast k p) s = .next s.contact.waitIdle)

/-- A valid frame by its address byte (R157, R161): the part's own address and 31 are requests, taken as the rows of
their kinds are; the own address with the reply mark sets the duplicate mark and raises LINK, and counts for no
supervision; any other is ignored, one with an unnamed bit set among them (log entry 31). That bit 7 of FADER-SET's
presence byte, which names no field, is passed over is the model's choice (log entry 10). A code that names no kind is
UNKNOWN-KIND, a payload that does not fit its kind's form (Table 10-9) BAD-LENGTH, each ignored when broadcast, and both
restart the timer; a payload that fits is the row of its kind with the fields the bytes spell. -/
def Obligations.ValidFramesAreJudgedByAddressAndKind : Prop :=
  (∀ (s : State) (a k : Byte) (p : List Byte), s.hears = true → s.link.address < 31 →
    let idle := { s.link with receiver := .waitIdle, bytes := [] }
    let own := a.toNat = s.link.address
    (own → exec (.foreignFrame a k p) s = exec (.unknownKind .addressed k p) s) ∧
    (a.toNat = 31 → exec (.foreignFrame a k p) s = exec (.unknownKind .broadcast k p) s) ∧
    (a.toNat = 128 + s.link.address → exec (.foreignFrame a k p) s = exec .duplicateAddressReply s) ∧
    (¬own → a.toNat ≠ 31 → a.toNat ≠ 128 + s.link.address →
      exec (.foreignFrame a k p) s = .next { s with link := idle }) ∧
    exec .duplicateAddressReply s = .next { s with
      link := { idle with duplicate := true }, notices := raiseInto (.link .duplicate false) s.notices } ∧
    ((k = 0#8 ∨ 43 < k.toNat) →
      exec (.unknownKind .addressed k p) s = .next (s.closed s.contact .addressed k.toNat .unknownKind .none) ∧
      exec (.unknownKind .broadcast k p) s = .next s.contact.waitIdle) ∧
    (1 ≤ k.toNat → k.toNat ≤ 43 → payloadFits k.toNat p.length = false →
      exec (.unknownKind .addressed k p) s = .next (s.closed s.contact .addressed k.toNat .badLength .none) ∧
      exec (.unknownKind .broadcast k p) s = .next s.contact.waitIdle)) ∧
  ∀ (s : State) (d : Dest) (b0 b1 b2 b3 b4 b5 b6 b7 b8 b9 b10 b11 b12 b13 b14 : Byte),
    let taken := fun (k : Byte) (p : List Byte) (c : Instr) => exec (.unknownKind d k p) s = exec c s
    let n0 := b0.toNat
    let n1 := b1.toNat
    let n2 := b2.toNat
    let glide := fun n => if n = 65535 then none else some n
    let given := fun (p : Byte) (i n : Nat) => if p.getLsbD i then some n else none
    (taken 1 [b0, b1, b2, b3, b4] (.move d n0 (le2 b1 b2) (le2 b3 b4)) ∧ taken 2 [b0] (.stop d n0) ∧
      taken 3 [b0, b1, b2] (.null d n0 (le2 b1 b2)) ∧ taken 4 [b0] (.teach d n0) ∧
      taken 5 [b0, b1, b2, b3, b4, b5, b6, b7, b8, b9, b10] (.faderSet d (BitVec.ofNat 16 (le2 b0 b1))
        ⟨given b2 0 b3.toNat, given b2 1 b4.toNat, given b2 2 b5.toNat, given b2 3 b6.toNat, given b2 4 b7.toNat,
          given b2 5 b8.toNat, given b2 6 (le2 b9 b10)⟩) ∧
      taken 6 [b0] (.faderRead d n0) ∧ taken 7 [b0, b1, b2] (.watchSet d (BitVec.ofNat 16 (le2 b0 b1)) n2) ∧
      taken 8 [b0, b1] (.faultClear d n0 n1) ∧ taken 9 [b0, b1] (.calibrate d (BitVec.ofNat 16 (le2 b0 b1))) ∧
      taken 10 [b0] (.calAccept d n0) ∧ taken 11 [b0] (.calReject d n0) ∧ taken 12 [b0] (.budgetSet d n0) ∧
      taken 13 [b0, b1, b2, b3] (.heatSet d (le2 b0 b1) (le2 b2 b3)) ∧ taken 14 [] (.driveRead d)) ∧
    (taken 15 [b0, b1, b2, b3] (.groupForm d n0 n1 (BitVec.ofNat 16 (le2 b2 b3))) ∧ taken 16 [b0] (.groupDissolve d n0) ∧
      taken 17 [b0] (.groupRead d n0) ∧
      (∀ l : List (Byte × Byte × Byte × Byte × Byte),
        taken 18 (b0 :: b1 :: b2 :: l.flatMap fun (f, t, t', g, g') => [f, t, t', g, g'])
          (.pageLoad d n0 (le2 b1 b2) (l.map fun (f, t, t', g, g') => ⟨f.toNat, le2 t t', glide (le2 g g')⟩))) ∧
      taken 19 [b0] (.pageRead d n0) ∧
      taken 20 [b0, b1, b2, b3, b4, b5] (.recall d n0 n1 n2 (le3 b3 b4 b5)) ∧ taken 21 [] (.fire d) ∧
      taken 22 [] (.withdraw d) ∧ taken 23 [] (.halt d) ∧
      taken 24 [b0, b1, b2, b3] (.recallSet d (le2 b0 b1) (le2 b2 b3)) ∧ taken 25 [] (.recallRead d)) ∧
    (taken 26 [b0, b1, b2] (.timeSet d (le3 b0 b1 b2)) ∧ taken 27 [b0] (.transport d n0) ∧
      taken 28 [b0, b1] (.timeSource d n0 n1) ∧ taken 29 [b0, b1, b2] (.laneEnable d n0 (glide (le2 b1 b2))) ∧
      taken 30 [b0] (.laneDisable d n0) ∧
      (∀ l : List (Byte × Byte × Byte × Byte × Byte × Byte),
        taken 31 (b0 :: l.flatMap fun (t, t', t'', p, p', x) => [t, t', t'', p, p', x])
          (.points d n0 (l.map fun (t, t', t'', p, p', x) => ⟨le3 t t' t'', le2 p p', x.toNat⟩))) ∧
      taken 32 [b0] (.laneRead d n0)) ∧
    (taken 33 [b0, b1, b2, b3, b4, b5, b6, b7, b8, b9, b10, b11, b12, b13, b14]
        (.meterSet d (BitVec.ofNat 32 (le2 b0 b1 + 65536 * le2 b2 b3))
          ⟨given b4 0 b5.toNat, given b4 1 b6.toNat, given b4 2 b7.toNat, given b4 3 b8.toNat, given b4 4 (le2 b9 b10),
            given b4 5 (le2 b11 b12), given b4 6 b13.toNat, given b4 7 b14.toNat⟩) ∧
      (∀ v : Vector Byte 40, taken 34 (b0 :: v.toList) (.scaleLoad d n0 (v.map (·.toNat)))) ∧
      (∀ l : List (Byte × Byte × Byte), taken 35 (l.flatMap fun (m, x, c) => [m, x, c])
        (.levels d (l.map fun (m, x, c) => ⟨m.toNat, x.toNat, c.toNat⟩))) ∧
      taken 36 [b0, b1, b2, b3] (.holdClear d (BitVec.ofNat 32 (le2 b0 b1 + 65536 * le2 b2 b3))) ∧
      taken 37 [b0] (.brightness d n0) ∧ taken 38 [b0] (.streamSet d n0) ∧
      taken 39 [b0, b1, b2] (.linkSet d (le2 b0 b1) n2) ∧ taken 40 [b0] (.collect d n0) ∧ taken 41 [] (.identify d) ∧
      taken 42 [] (.store d) ∧ taken 43 [] (.restart d))

/-- The teardown at the expiry of the supervision timer (R159, R40, R87, R118, R138): LINK-LOST with its LINK notice; no
claim is left, moving and calibrating faders are PARKED at their positions, no recall is left, every lane is disabled
and empty; every group keeps its master and its members; settings, pages, Timeline, heat and readings are kept. That an
event of the part's clock falls at its earliest time, or at the present time when that is later, is the model's choice
(log entry 3). -/
def Obligations.LinkLossTearsDownHostWork : Prop :=
  ∀ s : State, s.part = .ready → s.link.lost = false → s.settings.linkTimeout ≠ 0 → s.claimsFit → s.queueExact →
    ∃ t, exec .linkLost s = .next t ∧ t.now = max s.now (s.link.supStart + 6 * s.settings.linkTimeout) ∧
      t.link = { s.link with lost := true } ∧ t.base = { s.base with now := t.now, link := t.link } ∧
      t.recalls = [] ∧ t.queue = [] ∧ Notice.link .lost true ∈ t.notices ∧
      (∀ f, t.claimOf f = .none ∧ (t.fader f).lane.enabled = false ∧ (t.fader f).lane.queue = [] ∧
        t.stateOf f = (if (s.stateOf f).moving ∨ (s.stateOf f).phase ≠ none then .parked else s.stateOf f) ∧
        ((s.stateOf f).moving = true ∨ (s.stateOf f).phase ≠ none ∨ s.claimOf f ≠ .none →
          t.targetOf f = s.posOf f ∧ t.holdOf f = s.posOf f)) ∧
      ∀ g, (t.group g).map (fun r => (r.master, r.members.map (·.fader))) =
        (s.group g).map fun r => (r.master, r.members.map (·.fader))

/-! ## Samples -/

/-- SERVO_SAMPLE (R1 to R4, R6): the reading, its class and the position of the fader sampled, at the sample's time; the
last valid position stands while the reading is out of window; no other fader's reading or position changes. The mapped
position is the nearest step, halves toward the top (R3). The sample (R48) in TRAVEL or SETTLE sets the drive level to 4
% for each step between setpoint and new position, limited to 100 % (R47), in CAL-DOWN to -35 % and in CAL-UP to +35 %
(R41), and 0 in a state that is not driven; outside TRAVEL and SETTLE the setpoint takes the position (R42). It adds the
magnitude to the window sum and sets the held mark of a slot holder (R64), and stands as the level of the most recent
sample (R70), where the same event sets the item to another level as well: at a sample that itself ends with the motor
off, or that ends CAL-DOWN, the model's choice (log entry 42). The sample then ends with arrival, calibration and
faults; where these leave the state, they leave setpoint and drive. FDA carries a positive level and FDB the magnitude
of a negative one, and neither in a state that is not driven (R16). That a full heat window is closed first, at the
present time, is the model's choice (log entry 34). That an event of the part's clock falls at its earliest time, or at
the present time when that is later, is the model's choice (log entry 3). -/
def Obligations.ServoSampleSensesAndDrives : Prop :=
  (∀ (f : FaderIx) (raw : BitVec 12) (active : Bool) (s : State), s.part = .ready →
    let x := (s.fader f).track
    let c := s.config f
    let inside := c.calLow ≤ raw.toNat + 200 ∧ raw.toNat ≤ c.calHigh + 200
    ∃ t, exec (.servoSample f raw active) s = .next t ∧ t.now = max s.now x.nextSample ∧
      (t.fader f).track.raw = raw.toNat ∧ (t.fader f).track.cls = (if inside then .inWindow else .outOfWindow) ∧
      (t.fader f).track.first = false ∧ (t.fader f).track.nextSample = t.now + 3 ∧
      (inside → t.posOf f = mapRaw c.calLow c.calHigh raw.toNat ∧ (t.fader f).track.lastValid = t.posOf f) ∧
      (¬inside → x.first = false → t.posOf f = x.lastValid ∧ (t.fader f).track.lastValid = x.lastValid) ∧
      (¬inside → x.first = true → t.posOf f = (if raw.toNat + 200 < c.calLow then 0 else 1023) ∧
        (t.fader f).track.lastValid = t.posOf f) ∧
      (∀ f', f' ≠ f → (t.fader f').senses = (s.fader f').senses) ∧ (t.fader f).touch = (s.fader f).touch ∧
      t.base = { s.base with now := t.now, faders := t.base.faders } ∧
      let p := s.sampleMotion f raw
      let m := (p.fader f).motion
      let drive := fun d : Int => m.drive = d
      let w := (s.fader f).heat
      let full := 20 ≤ w.samples
      let heat := if full then (if w.held then min 4095 (w.heat + w.sum / 20 / 25) else w.heat - 1) else w.heat
      let n := m.drive.natAbs
      let held := p.holdsSlot f
      t = p.sampleEnds f active false ∧ (p.fader f).track = (t.fader f).track ∧
        ((p.stateOf f = .travel ∨ p.stateOf f = .settle) → drive (servoDrive m.setpoint (t.posOf f))) ∧
        (p.stateOf f = .calibrating .calDown → drive (-35) ∧ m.setpoint = t.posOf f) ∧
        (p.stateOf f = .calibrating .calUp → drive 35 ∧ m.setpoint = t.posOf f) ∧
        ((p.stateOf f).driven = false → drive 0 ∧ m.setpoint = t.posOf f ∧ m.ramp = .none) ∧
        (s.recallsOpen → t.stateOf f = p.stateOf f → (t.fader f).motion = m) ∧
        (t.fader f).heat =
          if full then ⟨heat, n, held, 1, m.drive⟩ else ⟨heat, w.sum + n, w.held || held, w.samples + 1, m.drive⟩) ∧
  (∀ low high raw : Nat, low < high →
    let p := mapRaw low high raw
    let d : Int := (high : Int) - low
    let x : Int := ((raw : Int) - low) * 1023
    p ≤ 1023 ∧ (0 ≤ x → x ≤ 1023 * d → 2 * x - d < 2 * (p * d) ∧ 2 * (p * d) ≤ 2 * x + d) ∧
      (x < 0 → p = 0) ∧ (1023 * d < x → p = 1023)) ∧
  (∀ setpoint pos : Nat,
    let e : Int := (setpoint : Int) - pos
    (-25 ≤ e → e ≤ 25 → servoDrive setpoint pos = 4 * e) ∧ (25 ≤ e → servoDrive setpoint pos = 100) ∧
      (e ≤ -25 → servoDrive setpoint pos = -100)) ∧
  ∀ (f : FaderIx) (s : State),
    ((s.stateOf f).driven = false → s.fda f = 0 ∧ s.fdb f = 0) ∧
      ((s.stateOf f).driven = true → (s.fda f : Int) - s.fdb f = (s.fader f).motion.drive ∧ (s.fda f = 0 ∨ s.fdb f = 0))

/-- RAMP_END and ARRIVAL (R43, R44, R49 to R52): a TRAVEL fader's ramp runs out at the first sample at or after its
duration, with the setpoint at its end and the ramp ENDED unless the same sample latches a fault, and the fader goes to
SETTLE within its arrival window; a sample before that sets the setpoint along the ramp. After the ramp has ended a
TRAVEL fader enters SETTLE at the first sample within the window, with settle count 0 (R49); in SETTLE each sample
within it counts one, and one outside sends it back to TRAVEL with settle count 0, ramp and setpoint kept (R50). A
SETTLE fader within its arrival window at its sixteenth sample parks with hold target at the target, a claim NONE or
LANE standing, a DIRECT one ending ARRIVED with its MOTION notice, a FOLLOW one likewise unless its master leads, and a
RECALL entry resolving ARRIVED or, after its deadline, LATE. Each row is the servo sample at which this happens (log
entry 12). The setpoint along a ramp is the nearest step to the straight line, halves toward the ramp end. That an event
of the part's clock falls at its earliest time, or at the present time when that is later, is the model's choice (log
entry 3). -/
def Obligations.RampEndsAndFaderArrives : Prop :=
  (∀ (f : FaderIx) (raw : BitVec 12) (active : Bool) (r : RampItems) (s : State), s.part = .ready →
    s.stateOf f = .travel → (s.fader f).motion.ramp = .running r → (s.fader f).heat.samples < 20 →
    (s.fader f).track.first = false → s.masterOf f = none →
    3 * r.duration ≤ max s.now (s.fader f).track.nextSample - r.startTime →
    ∃ t, exec (.rampEnd f raw active) s = .next t ∧ exec (.servoSample f raw active) s = .next t ∧
      ((s.sampleMotion f raw).fader f).motion.setpoint = r.stop ∧
      ((s.sampleMotion f raw).fader f).motion.ramp = .ended r ∧
      (s.recallsOpen → (t.fader f).motion.setpoint = r.stop ∧
        (t.stateOf f ≠ .faulted → (t.fader f).motion.ramp = .ended r ∧ t.claimOf f = s.claimOf f ∧
          t.targetOf f = s.targetOf f ∧ t.stateOf f =
            if Sys2Proof.dist (t.posOf f) (s.targetOf f) ≤ (s.config f).arrivalWindow then .settle else .travel) ∧
        (active = false → (s.fader f).fault.stallRun = none →
          classify (s.config f).calLow (s.config f).calHigh raw.toNat = .inWindow → t.stateOf f ≠ .faulted))) ∧
  (∀ (f : FaderIx) (raw : BitVec 12) (r : RampItems) (s : State), s.part = .ready →
    (s.stateOf f = .travel ∨ s.stateOf f = .settle ∧ (s.fader f).motion.settleCount < 15) →
    (s.fader f).heat.samples < 20 → (s.fader f).track.first = false → s.masterOf f = none → s.recallsOpen →
    (s.fader f).fault.stallRun = none → classify (s.config f).calLow (s.config f).calHigh raw.toNat = .inWindow →
    let pos := mapRaw (s.config f).calLow (s.config f).calHigh raw.toNat
    let inside := Sys2Proof.dist pos (s.targetOf f) ≤ (s.config f).arrivalWindow
    let elapsed := max s.now (s.fader f).track.nextSample - r.startTime
    ∃ t, exec (.servoSample f raw false) s = .next t ∧
      ((s.fader f).motion.ramp = .ended r → t.posOf f = pos ∧ (t.fader f).motion.ramp = .ended r ∧
        (t.fader f).motion.setpoint = (s.fader f).motion.setpoint ∧ (t.fader f).record = { (s.fader f).record with
          state := if inside then .settle else .travel } ∧
        (s.stateOf f = .travel → inside → (t.fader f).motion.settleCount = 0) ∧
        (s.stateOf f = .settle → (t.fader f).motion.settleCount =
          if inside then (s.fader f).motion.settleCount + 1 else 0)) ∧
      ((s.fader f).motion.ramp = .running r → s.stateOf f = .travel → elapsed < 3 * r.duration →
        (t.fader f).motion.ramp = .running r ∧ (t.fader f).motion.setpoint = r.setpointAt elapsed ∧
        (t.fader f).record = (s.fader f).record)) ∧
  (∀ (f : FaderIx) (raw : BitVec 12) (s : State), s.part = .ready → s.stateOf f = .settle →
    (s.fader f).motion.settleCount = 15 → (s.fader f).heat.samples < 20 → (s.fader f).track.first = false →
    s.masterOf f = none → s.recalls = [] → classify (s.config f).calLow (s.config f).calHigh raw.toNat = .inWindow →
    let pos := mapRaw (s.config f).calLow (s.config f).calHigh raw.toNat
    Sys2Proof.dist pos (s.targetOf f) ≤ (s.config f).arrivalWindow →
    ∃ t, exec (.arrival f raw false) s = .next t ∧ exec (.servoSample f raw false) s = .next t ∧
      t.stateOf f = .parked ∧ t.posOf f = pos ∧ t.targetOf f = s.targetOf f ∧ t.holdOf f = s.targetOf f ∧
      (t.fader f).record.planned = none ∧ (t.fader f).motion.ramp = .none ∧ (t.fader f).motion.drive = 0 ∧
      (s.claimOf f = .none → t.claimOf f = .none) ∧ (∀ b, s.claimOf f = .lane b → t.claimOf f = .lane b) ∧
      (s.claimOf f = .direct → t.claimOf f = .none ∧ Notice.motion f .direct .arrived pos false ∈ t.notices) ∧
      (∀ g, s.claimOf f = .follow g → s.leading g = true → t.claimOf f = .follow g) ∧
      (∀ g, s.claimOf f = .follow g → s.leading g = false → t.claimOf f = .none ∧
        Notice.motion f .follow .arrived pos (s.clampedOf f) ∈ t.notices)) ∧
  (∀ (f : FaderIx) (raw : BitVec 12) (r : Recall) (run : RecallRun) (i : Nat) (due : Time) (s : State), s.part = .ready →
    s.stateOf f = .settle → (s.fader f).motion.settleCount = 15 → (s.fader f).heat.samples < 20 →
    (s.fader f).track.first = false → s.masterOf f = none → s.claimOf f = .recall r.tag i →
    (s.fader f).record.deadline = some due → s.recalls = [r] → r.run = some run → run.outcomes[i]? = some none →
    classify (s.config f).calLow (s.config f).calHigh raw.toNat = .inWindow →
    Sys2Proof.dist (mapRaw (s.config f).calLow (s.config f).calHigh raw.toNat) (s.targetOf f)
      ≤ (s.config f).arrivalWindow →
    let now := max s.now (s.fader f).track.nextSample
    let left := run.outcomes.set i (some (if now ≤ due then .arrived else .late))
    ∃ t, exec (.arrival f raw false) s = .next t ∧ exec (.servoSample f raw false) s = .next t ∧ t.now = now ∧
      t.stateOf f = .parked ∧ t.claimOf f = .none ∧ t.targetOf f = s.targetOf f ∧ t.holdOf f = s.targetOf f ∧
      (t.fader f).record.deadline = none ∧ (t.fader f).record.expiry = none ∧
      (none ∈ left → t.recalls = [{ r with run := some { run with outcomes := left } }]) ∧
      (none ∉ left → t.recalls = [] ∧ Notice.recallEnd r.tag r.page false
        (((s.page r.page).entries.zip left).map fun (e, o) => (e.fader, o.getD .arrived)) ∈ t.notices)) ∧
  ∀ (r : RampItems) (e : Nat), 0 < r.duration → e ≤ 3 * r.duration →
    let d : Int := 3 * r.duration
    let line : Int := (r.start : Int) * d + ((r.stop : Int) - r.start) * e
    let v : Int := r.setpointAt e
    (r.start ≤ r.stop → 2 * line - d < 2 * (v * d) ∧ 2 * (v * d) ≤ 2 * line + d) ∧
      (r.stop ≤ r.start → 2 * line - d ≤ 2 * (v * d) ∧ 2 * (v * d) < 2 * line + d)

/-- CAL_DOWN_STOP, CAL_UP_STOP, CAL_PHASE_TIMEOUT (R82 to R84): a knob that has kept within 7 counts of the stop
reference for 80 ms has stopped: the reading is the captured low and CAL-UP begins at +35 %, or the captured high, and a
span of 2400 or more goes to review with READY, a smaller one ends BAD-SPAN with the fader PARKED; a phase that runs
more than 3000 ms without a stop ends TIMEOUT with the fader PARKED. The old calibration stays in force. That an event
of the part's clock falls at its earliest time, or at the present time when that is later, is the model's choice (log
entry 3). -/
def Obligations.CalibrationPhasesEndByStopOrTime : Prop :=
  ∀ (f : FaderIx) (raw : BitVec 12) (c : CalRun) (x : CalTiming) (s : State), s.part = .ready →
    (s.fader f).heat.samples < 20 → (s.fader f).track.first = false → s.masterOf f = none → s.recalls = [] →
    (s.fader f).cal = some c → c.timing = some x →
    let now := max s.now (s.fader f).track.nextSample
    let stopped := Sys2Proof.dist raw.toNat x.stopReference < 8 ∧ x.stopStart + 480 ≤ now
    (stopped → s.stateOf f = .calibrating .calDown → ∃ t, exec (.calDownStop f raw false) s = .next t ∧
      exec (.servoSample f raw false) s = .next t ∧ t.stateOf f = .calibrating .calUp ∧ (t.fader f).motion.drive = 35 ∧
      (t.fader f).cal = some { c with low := some raw.toNat, timing := some ⟨now, raw.toNat, now⟩ } ∧
      t.settings = s.settings) ∧
    (stopped → s.stateOf f = .calibrating .calUp → ∀ low, c.low = some low →
      ∃ t, exec (.calUpStop f raw false) s = .next t ∧ exec (.servoSample f raw false) s = .next t ∧
        t.settings = s.settings ∧
        (2400 + low ≤ raw.toNat → t.stateOf f = .calibrating .calReview ∧
          (t.fader f).record.pendingCal = some ⟨low, raw.toNat, (raw.toNat : Int) - low⟩ ∧
          Notice.cal f .ready .calUp (some low) (some raw.toNat) (some ((raw.toNat : Int) - low)) ∈ t.notices) ∧
        (raw.toNat < 2400 + low → t.stateOf f = .parked ∧ t.claimOf f = .none ∧ (t.fader f).cal = none ∧
          Notice.cal f .badSpan .calUp (some low) (some raw.toNat) (some ((raw.toNat : Int) - low)) ∈ t.notices)) ∧
    (¬stopped → x.phaseStart + 18000 < now → ∀ p, s.stateOf f = .calibrating p → (p = .calDown ∨ p = .calUp) →
      ∃ t, exec (.calPhaseTimeout f raw false) s = .next t ∧ exec (.servoSample f raw false) s = .next t ∧
        t.stateOf f = .parked ∧ t.claimOf f = .none ∧ (t.fader f).cal = none ∧ t.settings = s.settings ∧
        Notice.cal f .timeout p c.low c.high none ∈ t.notices)

/-- STALL_CONDITION, TRACK_CONDITION, OVERCURRENT_CONDITION (R72 to R75): 40 % drive without 4 steps of movement for 120
ms, in TRAVEL or SETTLE along any ramp, readings out of window for 20 ms in any state but CAL-DOWN and CAL-UP, an active
fault input for 1 ms in any state make the condition current at the sample; watched, with nothing latched, it latches:
FAULTED at its position without a claim (R36), the lane disabled, a DIRECT claim ended with MOTION FAULTED, an open
recall entry resolved FAULTED (R109, R112), and the last latched condition named in the pending FAULT notice. Each row
is the servo sample at which this happens (log entry 12). That such a row takes the fault before an arrival or a
calibration end due at the same sample, where R53 and R87 allow either order, is the model's choice (log entry 13). That
an event of the part's clock falls at its earliest time, or at the present time when that is later, is the model's
choice (log entry 3). -/
def Obligations.ConditionsBecomeCurrentAndLatch : Prop :=
  ∀ (f : FaderIx) (raw : BitVec 12) (active : Bool) (s : State), s.part = .ready → (s.fader f).heat.samples < 20 →
    (s.fader f).track.first = false → s.masterOf f = none →
    let x := s.fader f
    let now := max s.now x.track.nextSample
    let inside := classify (s.config f).calLow (s.config f).calHigh raw.toNat = .inWindow
    let pos := mapRaw (s.config f).calLow (s.config f).calHigh raw.toNat
    let setpoint := match x.motion.ramp with
      | .running r => if 3 * r.duration ≤ now - r.startTime then r.stop else r.setpointAt (now - r.startTime)
      | _ => x.motion.setpoint
    let latches := fun (t : State) (c : Cond) => (t.fader f).fault.current.has c = true ∧
      ((s.config f).watch.has c = true → x.fault.latched.isEmpty = true →
        (t.fader f).fault.latched.has c = true ∧ t.stateOf f = .faulted ∧ t.claimOf f = .none ∧
        t.targetOf f = t.posOf f ∧ t.holdOf f = t.posOf f ∧ (t.fader f).motion.drive = 0 ∧
        ((s.claimOf f).isLane = true → (t.fader f).lane.enabled = false) ∧
        (s.claimOf f = .direct → Notice.motion f .direct .faulted (t.posOf f) false ∈ t.notices) ∧
        ((active = false ∨ c = .overcurrent) → Notice.fault f c ∈ t.notices) ∧
        ∀ r run i, s.recalls = [r] → r.run = some run → s.claimOf f = .recall r.tag i → run.outcomes[i]? = some none →
          let left := run.outcomes.set i (some .faulted)
          (none ∈ left → t.recalls = [{ r with run := some { run with outcomes := left } }]) ∧
          (none ∉ left → t.recalls = [] ∧ Notice.recallEnd r.tag r.page false
            (((s.page r.page).entries.zip left).map fun (e, o) => (e.fader, o.getD .faulted)) ∈ t.notices))
    (∀ t0 ref, inside → (s.stateOf f = .travel ∨ s.stateOf f = .settle) → x.fault.stallRun = some (t0, ref) →
      Sys2Proof.dist pos ref < 4 → t0 + 720 ≤ now → x.fault.current.stall = false → 10 ≤ Sys2Proof.dist setpoint pos →
      ∃ t, exec (.stallCondition f raw active) s = .next t ∧ latches t .stall ∧ t.posOf f = pos) ∧
    (∀ t0, ¬inside → (s.stateOf f).finding = false → (s.stateOf f = .calibrating .calWait → s.recallsOpen) →
      x.fault.trackRun = some t0 → t0 + 120 ≤ now → x.fault.current.track = false →
      ∃ t, exec (.trackCondition f raw active) s = .next t ∧ latches t .track ∧ t.posOf f = x.track.lastValid) ∧
    (∀ t0, active = true → x.fault.overcurrentRun = some t0 → t0 + 6 ≤ now → x.fault.current.overcurrent = false →
      ∃ t, exec (.overcurrentCondition f raw active) s = .next t ∧ latches t .overcurrent ∧
        t.posOf f = if inside then pos else x.track.lastValid)

/-- TOUCH_SAMPLE, TOUCH_ON, TOUCH_OFF (R7 to R12, R22 to R24): six and fifty samples of a change only count; the next
makes it a touch change with a capture and its notice; with touch sensing off nothing is counted. TOUCH-ON puts a fader
that takes claims into TOUCHED at its position with the motor off, its LANE claim suspended and any other ended, a
DIRECT one with MOTION OVERRIDDEN, an open recall entry resolved OVERRIDDEN (R109, R112); it ends a calibration in any
phase TOUCHED with its CAL notice (R23, R87); FAULTED stays. TOUCH-OFF takes a fader without a claim out of TOUCHED at its
position: to REST at or above the resume value, else to PARKED. One with a suspended LANE claim keeps it under RETURN,
its target at the lane value with the chase glide and its hold target at the position (log entry 33), and goes to REST,
to a slot or the queue where it needs drive, else to PARKED; without a lane value it stays at its position; under STAY
the lane is disabled and emptied with reason RELEASE and the claim ends. A group member is retrimmed. TOUCH_ON and
TOUCH_OFF are the samples that complete the change (log entry 12). That an event of the part's clock falls at its
earliest time, or at the present time when that is later, is the model's choice (log entry 3). -/
def Obligations.TouchesAreDebouncedAndTaken : Prop :=
  ∀ (f : FaderIx) (s : State), s.part = .ready →
    let x := (s.fader f).touch
    let now := max s.now x.nextSample
    let timed := { s with now := now }.modTouch f fun y => { y with nextSample := now + 3 }
    ((s.config f).touchEnable = false → ∀ b, exec (.touchSample f b) s = .next timed) ∧
    ((s.config f).touchEnable = true →
      (x.on = false → exec (.touchSample f false) s = .next (timed.modTouch f fun y => { y with present := 0 })) ∧
      (x.on = false → x.present < 6 → exec (.touchSample f true) s = .next
        (timed.modTouch f fun y => { y with present := x.present + 1 })) ∧
      (x.on = true → exec (.touchSample f true) s = .next (timed.modTouch f fun y => { y with absent := 0 })) ∧
      (x.on = true → x.absent < 50 → exec (.touchSample f false) s = .next
        (timed.modTouch f fun y => { y with absent := x.absent + 1 })) ∧
      (x.on = false → 6 ≤ x.present → ∃ t, exec (.touchOn f) s = .next t ∧ exec (.touchSample f true) s = .next t ∧
        (t.fader f).touch = ⟨true, 0, 0,
          if x.captures.length < 2 then x.captures ++ [⟨true, s.posOf f, s.timeline.count⟩] else x.captures,
          x.lost || decide (2 ≤ x.captures.length), now + 3⟩ ∧ Notice.capture f ∈ t.notices ∧
        (s.stateOf f = .faulted → t.stateOf f = .faulted) ∧
        (∀ p, s.stateOf f = .calibrating p → t.stateOf f = .touched ∧ t.claimOf f = .none ∧ t.targetOf f = s.posOf f ∧
          t.holdOf f = s.posOf f ∧ (t.fader f).motion.drive = 0 ∧ (t.fader f).cal = none ∧
          (t.fader f).record.pendingCal = none ∧ ∀ c, (s.fader f).cal = some c →
            Notice.cal f .touched p c.low c.high none ∈ t.notices) ∧
        ((s.stateOf f).takesClaims = true → t.stateOf f = .touched ∧ t.targetOf f = s.posOf f ∧
          t.holdOf f = s.posOf f ∧ (t.fader f).motion.ramp = .none ∧ (t.fader f).motion.drive = 0 ∧
          ((s.claimOf f).isLane = true → t.claimOf f = .lane true) ∧ ((s.claimOf f).isLane = false → t.claimOf f = .none) ∧
          (s.claimOf f = .direct → Notice.motion f .direct .overridden (s.posOf f) false ∈ t.notices) ∧
          ∀ r run i, s.recalls = [r] → r.run = some run → s.claimOf f = .recall r.tag i → run.outcomes[i]? = some none →
            let left := run.outcomes.set i (some .overridden)
            (none ∈ left → t.recalls = [{ r with run := some { run with outcomes := left } }]) ∧
            (none ∉ left → t.recalls = [] ∧ Notice.recallEnd r.tag r.page false
              (((s.page r.page).entries.zip left).map fun (e, o) => (e.fader, o.getD .overridden)) ∈ t.notices))) ∧
      (x.on = true → 50 ≤ x.absent → ∃ t, exec (.touchOff f) s = .next t ∧ exec (.touchSample f false) s = .next t ∧
        (t.fader f).touch = ⟨false, 0, 0,
          if x.captures.length < 2 then x.captures ++ [⟨false, s.posOf f, s.timeline.count⟩] else x.captures,
          x.lost || decide (2 ≤ x.captures.length), now + 3⟩ ∧ Notice.capture f ∈ t.notices ∧
        (s.stateOf f = .touched → s.claimOf f = .none → t.claimOf f = .none ∧ t.targetOf f = s.posOf f ∧
          t.holdOf f = s.posOf f ∧
          t.stateOf f = if s.settings.heatResume ≤ s.heatOf f then .rest else .parked) ∧
        (∀ g r y, s.stateOf f = .touched → (s.claimOf f).isFollow = false → s.masterOf f = none →
          s.memberOf f = some (g, r, y) → t.roleOf f = .member g ((s.posOf f : Int) - s.posOf r.master)) ∧
        (s.stateOf f = .touched → s.claimOf f = .lane true → (s.fader f).lane.enabled = true → t.holdOf f = s.posOf f ∧
          ((s.config f).release = .stay → t.claimOf f = .none ∧ t.targetOf f = s.posOf f ∧
            (t.fader f).lane = { (s.fader f).lane with
              enabled := false, queue := [], current := none, value := none, segment := none, starved := false } ∧
            Notice.lane f .release s.timeline.count ∈ t.notices ∧
            t.stateOf f = if s.settings.heatResume ≤ s.heatOf f then .rest else .parked) ∧
          ((s.config f).release = .return → t.claimOf f = .lane false ∧ (t.fader f).lane = (s.fader f).lane ∧
            ((s.fader f).lane.value = none → t.targetOf f = s.posOf f ∧
              t.stateOf f = if s.settings.heatResume ≤ s.heatOf f then .rest else .parked) ∧
            ∀ v, (s.fader f).lane.value = some v → t.targetOf f = v ∧
              (t.fader f).record.planned = some (now + 6 * (s.fader f).lane.chase) ∧
              (s.settings.heatResume ≤ s.heatOf f → t.stateOf f = .rest) ∧
              (s.heatOf f < s.settings.heatResume → s.heatOf f < s.settings.heatTrip → t.stateOf f =
                if Sys2Proof.dist (s.posOf f) v ≤ (s.config f).arrivalWindow then .parked
                else if f ∈ t.queue then .waiting else .travel)))))

/-- HEAT_WINDOW_END (R63 to R66): after twenty samples the heat of a fader that held a slot rises by its mean drive over
25, to 4095 at most, and that of one that held none falls by 1; then the trip and resume tests. No other heat changes.
That the window's end falls at the present time, the clock unmoved, is the model's choice (log entry 34). -/
def Obligations.HeatWindowEndChangesHeatThenTests : Prop :=
  ∀ (f : FaderIx) (s : State), s.part = .ready → 20 ≤ (s.fader f).heat.samples →
    let h := (s.fader f).heat
    let heat := if h.held then min 4095 (h.heat + h.sum / 20 / 25) else h.heat - 1
    ∃ t, exec (.heatWindowEnd f) s = .next t ∧ (t.fader f).heat = ⟨heat, 0, false, 0, h.lastDrive⟩ ∧
      t.base = { s.base with faders := t.base.faders } ∧ (∀ f', f' ≠ f → (t.fader f').senses = (s.fader f').senses) ∧
      ((s.stateOf f).trips = true → s.settings.heatTrip ≤ heat → s.settings.heatResume < heat →
        t.stateOf f = .rest ∧ Notice.rest f true .heat ∈ t.notices) ∧
      (s.stateOf f = .rest → heat ≤ s.settings.heatResume → s.settings.heatResume < s.settings.heatTrip →
        t.stateOf f ≠ .rest ∧ Notice.rest f false .cooled ∈ t.notices)

/-- RECALL_EXPIRY (R110): the open entry resolves EXPIRED and its fader holds its position without a claim; the recall
runs on while another entry is open, and completes with its RECALL-END where this was the last. That an event of the
part's clock falls at its earliest time, or at the present time when that is later, is the model's choice (log entry 3).
-/
def Obligations.RecallExpiryStopsFader : Prop :=
  ∀ (f : FaderIx) (i : Nat) (at' : Time) (r : Recall) (run : RecallRun) (s : State), s.part = .ready →
    s.claimOf f = .recall r.tag i → (s.fader f).record.expiry = some at' → s.recalls = [r] → r.run = some run →
    run.outcomes[i]? = some none → (s.stateOf f).phase = none →
    let left := run.outcomes.set i (some .expired)
    ∃ t, exec (.recallExpiry f) s = .next t ∧ t.now = max s.now at' ∧
      t.base = { s.base with now := t.now } ∧ t.claimOf f = .none ∧ t.targetOf f = s.posOf f ∧ t.holdOf f = s.posOf f ∧
      t.stateOf f = (if (s.stateOf f).moving then .parked else s.stateOf f) ∧
      (none ∈ left → t.recalls = [{ r with run := some { run with outcomes := left } }]) ∧
      (none ∉ left → t.recalls = [] ∧ Notice.recallEnd r.tag r.page false
        (((s.page r.page).entries.zip left).map fun (e, o) => (e.fader, o.getD .expired)) ∈ t.notices)

/-! ## Timeline, meters and stream events -/

/-- FRAME_PULSE, INTERNAL_FRAME_EVENT, SYNC_LOSS (R121 to R123): with source EXTERNAL an edge restarts the sync timer,
restores LOCKED with a SYNC notice where it was lost, and the count rises by 1 while RUN, staying at its highest value;
another source takes no edge. The generator's event comes at the end of the next whole frame period after its phase and
raises the count while RUN and LOCKED. A count that rises is a count change to the lanes and the Recall Engine. The
timer's expiry while RUN and LOCKED is SYNC-LOST, the count held. That the generator's event falls at its nominal time
is the model's choice (log entry 28). That an event of the part's clock falls at its earliest time, or at the present
time when that is later, is the model's choice (log entry 3). -/
def Obligations.FrameEventsAdvanceTheCount : Prop :=
  ∀ s : State, s.part = .ready → s.timeline.count ≤ 16777215 →
    let up := if s.timeline.run = true ∧ s.timeline.count < 16777215 then s.timeline.count + 1 else s.timeline.count
    (s.settings.source ≠ .external → exec .framePulse s = .next s) ∧
    (s.settings.source = .external → ∃ t, exec .framePulse s = .next t ∧
      t.timeline = { s.timeline with count := up, syncStart := s.now, locked := true } ∧
      t.base = { s.base with timeline := t.timeline } ∧
      (s.timeline.locked = false → Notice.sync true up ∈ t.notices) ∧
      (let u := { s with
          timeline := { s.timeline with count := up, syncStart := s.now, locked := true }
          notices := if s.timeline.locked then s.notices else raiseInto (.sync true up) s.notices }
       t = if up = s.timeline.count then u else u.countChange false)) ∧
    (s.settings.source = .internal → ∃ t, exec .internalFrameEvent s = .next t ∧
      t.now = max s.now (s.timeline.phase + (s.timeline.frames + 1) * s.settings.frameRate.period) ∧
      t.timeline = { s.timeline with
        count := if s.timeline.locked then up else s.timeline.count, frames := s.timeline.frames + 1 } ∧
      t.base = { s.base with now := t.now, timeline := t.timeline } ∧
      (let u := { s with now := t.now, timeline := t.timeline }
       t = if t.timeline.count = s.timeline.count then u else u.countChange false)) ∧
    (s.settings.source = .external → s.timeline.run = true → s.timeline.locked = true → exec .syncLoss s = .next { s with
      now := max s.now (s.timeline.syncStart + 3 * s.settings.frameRate.period)
      timeline := { s.timeline with locked := false }
      notices := raiseInto (.sync false s.timeline.count) s.notices })

/-- DISPLAY_FRAME, HOLD_EXPIRY, LAMP_EXPIRY, SCAN_FRAME_START (R143 to R150): bar, hold, lamp and image of each meter
after the frame, the accumulator silent again; a bar at or louder than a HOLDING hold, or louder than a FOLLOWING one,
is a new peak, held from the start, or followed at once where the hold time is below one frame (log entry 32); a hold
whose timer expires follows the bar, an INFINITE one never does; a lamp whose timer runs out goes off, a LATCHED one
stays lit; the meters of a LINKED pair are stepped with the louder bar, the overload of either and the hold time and
overload hold of M2k (R146), each keeping its own bar and its own segments. While the part is READY each row completes:
DISPLAY_FRAME and SCAN_FRAME_START always, HOLD_EXPIRY and LAMP_EXPIRY, each the whole display frame at which that timer
runs out (log entry 12), where the hold or the lit lamp has run its time. The scan commits the image last handed on and
the brightness in force. Nothing on the motor side changes. That an event of the part's clock falls at its earliest
time, or at the present time when that is later, is the model's choice (log entry 3). -/
def Obligations.DisplayFrameStepsMeters : Prop :=
  ∀ s : State, s.part = .ready →
    (∃ t, exec .displayFrame s = .next t ∧ t = { s with
      now := max s.now s.nextDisplay, nextDisplay := max s.now s.nextDisplay + 30, meters := t.meters,
      scanner := { s.scanner with handed := t.meters.map (·.shown) } } ∧
      ∀ m : MeterIx,
        let x := s.meter m
        let c := s.meterConfig m
        let b := (t.meter m).bar
        let pair := s.linked m = true
        let clips := fun k => (s.meter k).clip = true ∨ (s.meter k).acc ≤ (s.meterConfig k).threshold
        let loud := if pair then clips (lower m) ∨ clips (upper m) else clips m
        let peak := s.holdBar m
        let times := s.meterConfig (if pair then lower m else m)
        peak = (if pair then min (t.meter (lower m)).bar (t.meter (upper m)).bar else b) ∧
        (t.meter m).acc = 255 ∧ (t.meter m).clip = false ∧
        (c.mode = .peak → x.acc ≤ x.bar → b = x.acc) ∧
        (c.mode = .programme → x.acc ≤ x.bar → b = x.bar - (x.bar - x.acc + 1) / 2) ∧
        (c.mode = .average → x.acc ≤ x.bar → b = x.bar - (x.bar - x.acc + 15) / 16) ∧
        (c.mode = .average → x.bar ≤ x.acc → b = x.bar + (x.acc - x.bar + 15) / 16) ∧
        (c.mode ≠ .average → x.bar < x.acc → x.bar < 255 → x.fall + 1 < c.fallInterval → b = x.bar ∧
          (t.meter m).fall = x.fall + 1) ∧
        (c.mode ≠ .average → x.bar < x.acc → x.bar < 255 → c.fallInterval ≤ x.fall + 1 → b = x.bar + 1 ∧
          (t.meter m).fall = 0) ∧
        (t.meter m).hold ≤ peak ∧ peak ≤ b ∧
        (peak ≤ x.hold → (t.meter m).hold = peak) ∧ (x.holdState = .following → (t.meter m).hold = peak) ∧
        ((x.holdState = .holding ∧ peak ≤ x.hold ∨ x.holdState = .following ∧ peak < x.hold) →
          (t.meter m).holdElapsed = 0 ∧ (t.meter m).holdState = match times.holdTime with
            | some h => if h / 5 = 0 then .following else .holding
            | none => .holding) ∧
        (x.holdState = .following → x.hold ≤ peak → (t.meter m).holdState = .following ∧
          (t.meter m).holdElapsed = x.holdElapsed) ∧
        (x.holdState = .holding → x.hold < peak → times.holdTime = none → (t.meter m).hold = x.hold ∧
          (t.meter m).holdState = .holding ∧ (t.meter m).holdElapsed = min 2000 (x.holdElapsed + 1)) ∧
        (x.holdState = .holding → x.hold < peak → ∀ h, times.holdTime = some h →
          let e := min 2000 (x.holdElapsed + 1)
          (e < h / 5 → (t.meter m).hold = x.hold ∧ (t.meter m).holdState = .holding ∧ (t.meter m).holdElapsed = e) ∧
          (h / 5 ≤ e → exec (.holdExpiry m) s = .next t ∧ (t.meter m).hold = peak ∧
            (t.meter m).holdState = .following)) ∧
        (loud → (t.meter m).lamp = true ∧ (t.meter m).lampElapsed = 0) ∧
        (¬loud → x.lamp = false → (t.meter m).lamp = false) ∧
        (¬loud → x.lamp = true → times.overloadHold = none → (t.meter m).lamp = true ∧
          (t.meter m).lampElapsed = min 2000 (x.lampElapsed + 1)) ∧
        (¬loud → x.lamp = true → ∀ h, times.overloadHold = some h →
          let e := min 2000 (x.lampElapsed + 1)
          (e < h / 5 → (t.meter m).lamp = true ∧ (t.meter m).lampElapsed = e) ∧
          (h / 5 ≤ e → exec (.lampExpiry m) s = .next t ∧ (t.meter m).lamp = false)) ∧
        (t.meter m).shown = ⟨(s.scaleOf m).toList.countP fun n => decide (b ≤ n),
          (s.scaleOf m).toList.countP fun n => decide ((t.meter m).hold ≤ n), (t.meter m).lamp⟩) ∧
    exec .scanFrameStart s = .next { s with
      now := max s.now s.nextScan, nextScan := max s.now s.nextScan + 30,
      scanner := ⟨s.scanner.handed, s.scanner.handed, s.settings.brightness⟩ }

/-- LEVEL_STREAM_FRAME and STREAM_LOSS (R141, R152, R153): a frame of exactly 1024 bits between two syncs is accepted:
LIVE, with a STREAM notice where it was LOST, the loss timer restarted, and slot base + n an input of every meter Mn
whose source is STREAM; any other length is discarded whole. 20 ms without one is LOST, with its notice. That an event
of the part's clock falls at its earliest time, or at the present time when that is later, is the model's choice (log
entry 3). That the first sync after READY or RESTART only opens a frame is read from R152 (log entry 30). -/
def Obligations.StreamFramesFeedMetersOrAreDiscarded : Prop :=
  ∀ (bits : List Bool) (s : State), s.part = .ready →
    ((s.stream.gathering = false ∨ bits.length ≠ 1024) →
      exec (.levelStreamFrame bits) s = .next { s with stream := { s.stream with gathering := true } }) ∧
    (s.stream.gathering = true → bits.length = 1024 → ∃ t, exec (.levelStreamFrame bits) s = .next t ∧
      t = { s with
        stream := ⟨true, s.now, true⟩, meters := t.meters,
        notices := if s.stream.live then s.notices else raiseInto (.stream true) s.notices } ∧
      ∀ m : MeterIx,
        let slot := bits.drop (16 * (s.settings.baseSlot + m.val))
        ((s.meterConfig m).source = .link → t.meter m = s.meter m) ∧
        ((s.meterConfig m).source = .stream → t.meter m = { s.meter m with
          acc := min (s.meter m).acc (bitsValue (slot.take 8))
          clip := (s.meter m).clip || (slot.drop 8).headD false })) ∧
    (s.stream.live = true → exec .streamLoss s = .next { s with
      now := max s.now (s.stream.lossStart + 120), stream := { s.stream with live := false },
      notices := raiseInto (.stream false) s.notices })

/-! ## Frames -/

/-- The requests that write working settings, by kind code: TEACH, FADER-SET, WATCH-SET, CAL-ACCEPT, BUDGET-SET,
HEAT-SET, RECALL-SET, TIME-SOURCE, METER-SET, SCALE-LOAD, BRIGHTNESS, STREAM-SET, LINK-SET. No other request, and no
event but the resets and the last byte of a frame, changes a working setting; and no command but the end of a STORE and
CHIP_RESET changes the stored profile. -/
def Obligations.SettingsAndProfileChangeOnlyWhereSaid : Prop :=
  (∀ (c : Instr) (s t : State), exec c s = .next t →
    (∀ k, c.kind = some k → k ∉ [4, 5, 7, 10, 12, 13, 24, 28, 33, 34, 37, 38, 39]) →
    c ≠ .chipReset → (∀ a b v, c ≠ .resetRelease a b v) → (∀ a k p, c ≠ .foreignFrame a k p) →
    (∀ b low, c ≠ .byteArrival b low) → t.settings = s.settings) ∧
  ∀ (c : Instr) (s t : State), exec c s = .next t → c ≠ .chipReset → (∀ x, c ≠ .storeEnd x) → t.stored = s.stored

/-! ## Invariants that every step keeps -/

/-- No two pending notices share a key (R163), and ATTN is asserted exactly while a notice is pending. -/
def Obligations.NoticeKeysStayDistinct : Prop :=
  Kept State.noticesDistinct ∧ ∀ s : State, s.attn = true ↔ s.notices ≠ []

/-- The recall queue (R104, R112): never more than two recalls, only the oldest RUNNING, a RUNNING one with an open
entry; kept together with the fitness of claims; and no page named by a queued recall changes while it is named. -/
def Obligations.RecallQueueStaysInForm : Prop :=
  Kept (fun s => s.claimsFit ∧ s.recallsInForm ∧ s.recallsOpen) ∧
  ∀ (s t : State) (p : PageIx), step s = .next t → (∃ r ∈ s.recalls, r.page = p) → (∃ r ∈ t.recalls, r.page = p) →
    t.page p = s.page p

/-- The admission queue holds exactly the faders in WAITING and CAL-WAIT, each once (R59); and while the part is READY no
slot stays free while a fader waits (R60). -/
def Obligations.AdmissionQueueStaysExactAndServed : Prop :=
  (Kept State.queueExact) ∧
  (Kept fun s => s.part = .ready → s.poolSettled)

/-- A motor is driven only in TRAVEL, SETTLE, CAL-DOWN and CAL-UP (R16, R42); heat, the drive level and the level of the most
recent sample keep their ranges (R63, R47, R70), and a capture list never holds more than two captures (R11). -/
def Obligations.UndrivenMotorsStayOff : Prop :=
  Kept State.motorsOff ∧ Kept State.heatInRange ∧ Kept State.capturesBounded

/-- A fader holds a LANE claim exactly when its lane is enabled (R20); FAULTED and CALIBRATING faders hold no claim,
TOUCHED ones none or a suspended LANE, only TOUCHED ones a suspended one, and PARKED ones no DIRECT or RECALL claim
(R17, R19, R22, R36, R52, R81). -/
def Obligations.ClaimsStayFitForLaneAndState : Prop := Kept State.claimsFit

/-- Lanes stay in form (R128 to R130), and every target, hold target, setpoint, position, detent and page target stays in
0-1023 (R18); the Timeline count stays in 0-16,777,215. -/
def Obligations.LanesAndPositionsStayInRange : Prop :=
  Kept fun s => s.countInRange ∧ s.lanesInForm ∧ s.positionsInRange

/-- The working settings, the stored profile and a snapshot being written stay in the ranges of Table 12-1, calibrations
among them, kept together with the twelve bits of raw and captured readings and the span of a pending calibration result
(R83). The stored profile's contents before any STORE are the model's choice (log entry 5). -/
def Obligations.SettingsStayInRange : Prop := Kept fun s => s.settingsInRange ∧ s.calibrationsInRange

/-- No fader has two group roles, members are listed in fader order (R90, R91), and a group leads exactly while its master
meets the condition of R94; kept together with the fitness of claims. -/
def Obligations.GroupsStayDisjointAndLeadTruly : Prop := Kept fun s => s.claimsFit ∧ s.groupsDisjoint ∧ s.leadsTrue

/-- Meter levels stay in 0-255 with the hold at least as loud as the bar and the image in forty segments; the meters of a
LINKED pair share hold and lamp while the part is READY (R139, R141 to R149). -/
def Obligations.MetersStayInRangeAndPairsShared : Prop := Kept fun s => s.metersInRange ∧ s.pairsShared

/-- The state at reset has every one of these invariants. The values before start-up that the spec does not give are the
model's choice (log entries 4, 5 and 35). -/
def Obligations.ResetStateHasTheInvariants : Prop :=
  let s := State.reset
  s.noticesDistinct ∧ s.recallsInForm ∧ s.recallsOpen ∧ s.queueExact ∧ s.poolSettled ∧ s.motorsOff ∧ s.heatInRange ∧
    s.capturesBounded ∧ s.claimsFit ∧ s.countInRange ∧ s.lanesInForm ∧ s.positionsInRange ∧ s.settingsInRange ∧
    s.calibrationsInRange ∧ s.groupsDisjoint ∧ s.leadsTrue ∧ s.metersInRange ∧ s.pairsShared

/-! ## Position changes and groups -/

/-- Drift (R54, R55): a position change of a PARKED fader farther from its hold target than its hold window sends it to
the queue or to a slot with its target at the hold target and its claim kept; a nearer one leaves the record alone.
Following (R95): a position change of a leading master, in TOUCHED or with a DIRECT claim in WAITING, TRAVEL or SETTLE
(R94), hands each member of the group, in list order and while the link is IN-CONTACT, its position plus the offset,
clamped; a member that takes no claims, or holds a DIRECT, RECALL or LANE claim, is skipped; another follows it by its
state (R18, R45, R46), the groups disjoint and no slot free while a fader waits (R90, R60: every step keeps both). The
end of the lead (R97): a PARKED member's FOLLOW claim ends ARRIVED with its MOTION notice and a deferred retrim is made.
Retrim (R98): the offset becomes the member's position minus its master's; while it follows the retrim is deferred. At
the end of a RECALL or LANE claim of the master every member is retrimmed so, a STOP that halts a recall entry and a
LANE-DISABLE among the causes. -/
def Obligations.PositionChangesCorrectDriftAndLeadMembers : Prop :=
  (∀ (f : FaderIx) (raw : BitVec 12) (s : State), s.part = .ready → s.stateOf f = .parked →
    (s.fader f).heat.samples < 20 → (s.fader f).track.first = false → s.masterOf f = none → s.recallsOpen →
    1 ≤ (s.config f).speedLimit → classify (s.config f).calLow (s.config f).calHigh raw.toNat = .inWindow →
    let pos := mapRaw (s.config f).calLow (s.config f).calHigh raw.toNat
    let drifted := pos ≠ s.posOf f ∧ (s.config f).holdWindow < Sys2Proof.dist pos (s.holdOf f)
    ∃ t, exec (.servoSample f raw false) s = .next t ∧ t.posOf f = pos ∧ t.claimOf f = s.claimOf f ∧
      t.holdOf f = s.holdOf f ∧
      (¬drifted → (t.fader f).record = (s.fader f).record) ∧
      (drifted → t.targetOf f = s.holdOf f ∧ (t.fader f).record.planned = none ∧
        t.stateOf f = if s.settings.heatTrip ≤ s.heatOf f then .rest else if f ∈ t.queue then .waiting else .travel)) ∧
  (∀ (f : FaderIx) (g : GroupIx) (r : Group) (raw : BitVec 12) (s : State), s.part = .ready →
    (s.stateOf f = .touched ∨ s.claimOf f = .direct ∧ (s.stateOf f).moving = true ∧
      (s.fader f).fault.stallRun = none ∧ (s.fader f).motion.settleCount < 15) →
    (s.fader f).heat.samples < 20 → (s.fader f).track.first = false → s.masterOf f = some g → s.group g = some r →
    r.leading = true → s.groupsDisjoint → s.recallsOpen →
    classify (s.config f).calLow (s.config f).calHigh raw.toNat = .inWindow →
    let pos := mapRaw (s.config f).calLow (s.config f).calHigh raw.toNat
    ∃ t, exec (.servoSample f raw false) s = .next t ∧ ∀ x ∈ r.members,
      let m := x.fader
      let followed := pos ≠ s.posOf f ∧ s.link.lost = false ∧ (s.stateOf m).takesClaims = true ∧
        (s.claimOf m = .none ∨ (s.claimOf m).isFollow = true)
      (¬followed → t.claimOf m = s.claimOf m ∧ t.targetOf m = s.targetOf m ∧ t.clampedOf m = x.clamped) ∧
      (followed → t.targetOf m = followTarget pos x.offset ∧ t.clampedOf m = followClamped pos x.offset ∧
        t.claimOf m = if s.claimOf m = .none then .follow g else s.claimOf m)) ∧
  (∀ (g g' : GroupIx) (r : Group) (x : Member) (m : FaderIx) (pos : Nat) (s : State), s.groupsDisjoint → s.poolSettled →
    s.memberOf m = some (g', r, x) → s.leading g = true → (s.stateOf m).takesClaims = true → (s.claimOf m = .none ∨ s.claimOf m = .follow g) →
    let v := followTarget pos x.offset
    let near := Sys2Proof.dist (s.posOf m) v ≤ (s.config m).arrivalWindow
    let setpoint := (s.fader m).motion.setpoint
    let t := s.handFollow g pos m
    t.base = s.base ∧ t.claimOf m = .follow g ∧ t.targetOf m = v ∧
      (s.stateOf m = .rest → t.stateOf m = .rest ∧ t.queue = s.queue) ∧
      (s.stateOf m = .parked → v ≠ s.targetOf m → near → t.stateOf m = .parked ∧ t.holdOf m = v) ∧
      (s.stateOf m = .parked → v ≠ s.targetOf m → ¬near → s.heatOf m < s.settings.heatTrip →
        t.stateOf m = if m ∈ t.queue then .waiting else .travel) ∧
      (s.stateOf m = .waiting → ¬near → t.stateOf m = .waiting ∧ t.queue = s.queue) ∧
      ((s.stateOf m = .travel ∧ s.justGranted m = false ∨ s.stateOf m = .settle) → v ≠ s.targetOf m → ¬near →
        t.stateOf m = .travel ∧ ∀ n, s.claimOf m = .follow g → (s.fader m).record.planned = none →
          n = (if setpoint = v then 0 else ceilDiv (2 * Sys2Proof.dist setpoint v) (s.config m).speedLimit) →
          (t.fader m).motion.ramp = .running ⟨setpoint, v, s.now, n⟩)) ∧
  (∀ (f : FaderIx) (g : GroupIx) (r : Group) (s : State), s.masterOf f = some g → s.group g = some r →
    let led := fun b => s.setGroup g (some { r with leading := b })
    s.evalLead f = if r.leading = true ∧ s.meetsLead f = false then
      r.members.foldl (fun u x => u.memberLeadEnd g x.fader) (led false) else led (s.meetsLead f)) ∧
  (∀ (g : GroupIx) (m : FaderIx) (s : State),
    (¬(s.claimOf m = .follow g ∧ s.stateOf m = .parked) → s.memberLeadEnd g m = s) ∧
    (s.claimOf m = .follow g → s.stateOf m = .parked →
      let t := s.memberLeadEnd g m
      t.base = s.base ∧ t.stateOf m = .parked ∧ t.claimOf m = .none ∧ t.targetOf m = s.targetOf m ∧
        t.holdOf m = s.targetOf m ∧ (t.fader m).record.planned = none ∧
        Notice.motion m .follow .arrived (s.posOf m) (s.clampedOf m) ∈ t.notices ∧
        ∀ g' r x, s.memberOf m = some (g', r, x) → s.masterOf m = none →
          t.roleOf m = .member g' (if x.deferred then (s.posOf m : Int) - s.posOf r.master else x.offset))) ∧
  (∀ (m : FaderIx) (g : GroupIx) (r : Group) (x : Member) (s : State), s.memberOf m = some (g, r, x) →
    s.masterOf m = none →
    let y := (s.callRetrim m).memberOf m
    (s.callRetrim m).faders = s.faders ∧
      ((s.claimOf m).isFollow = true → (y.map fun z => z.2.2) = some { x with deferred := true }) ∧
      ((s.claimOf m).isFollow = false →
        (y.map fun z => z.2.2) = some { x with offset := (s.posOf m : Int) - s.posOf r.master, deferred := false }) ∧
      s.claimEnded m .direct = s.callRetrim m ∧ (∀ g', s.claimEnded m (.follow g') =
        if x.deferred then s.retrim m else s) ∧
      (∀ c : Claim, (c.isRecall = true ∨ c.isLane = true) → s.claimEnded m c = s.callRetrim m)) ∧
  ∀ (f : FaderIx) (g : GroupIx) (r : Group) (s : State), s.masterOf f = some g → s.group g = some r → s.groupsDisjoint →
    let retrimmed := fun (t : State) => t.group g = some { r with members := r.members.map fun x =>
      if (s.claimOf x.fader).isFollow then { x with deferred := true }
      else { x with offset := (s.posOf x.fader : Int) - s.posOf f, deferred := false } }
    (∀ c : Claim, (c.isRecall = true ∨ c.isLane = true) →
      (s.claimEnded f c).faders = s.faders ∧ retrimmed (s.claimEnded f c)) ∧
    (∀ q run i, s.hears = true → r.leading = false → s.claimOf f = .recall q.tag i → s.recalls = [q] → q.run = some run →
      run.outcomes[i]? = some none → (s.stateOf f).takesClaims = true →
      ∃ t, exec (.stop .addressed f.val) s = .next t ∧ t.claimOf f = .none ∧ retrimmed t) ∧
    (s.hears = true → r.leading = decide (s.stateOf f = .touched) → (s.claimOf f).isLane = true →
      (s.fader f).lane.enabled = true → (s.stateOf f).phase = none →
      ∃ t, exec (.laneDisable .addressed f.val) s = .next t ∧ t.claimOf f = .none ∧ retrimmed t)

end
end

