-- ==== Sys2Proof/Laws/State.lean ====
section
/-! SUPPORT. One lemma for each field and each primitive update of State: what a read sees after a write. -/

namespace Sys2Proof.Machine

/-! ## One fader -/

@[simp] theorem State.fader_modFader (s : State) (f : FaderIx) (g : Fader → Fader) :
    (s.modFader f g).fader f = g (s.fader f) := by
  simp [State.modFader, State.fader]

theorem State.fader_modFader_ne (s : State) {f f' : FaderIx} (g : Fader → Fader) (h : f' ≠ f) :
    (s.modFader f g).fader f' = s.fader f' := by
  have : f.val ≠ f'.val := fun e => h (Fin.ext e.symm)
  simp [State.modFader, State.fader, this]

theorem State.fader_modFader_ite (s : State) (f f' : FaderIx) (g : Fader → Fader) :
    (s.modFader f g).fader f' = if f' = f then g (s.fader f) else s.fader f' := by
  split
  · subst f'; simp
  · exact s.fader_modFader_ne g ‹_›

/-- A property of one fader is kept by an update of any fader that keeps it. -/
theorem State.fader_modFader_of {P : Fader → Prop} (s : State) (f f' : FaderIx) (g : Fader → Fader)
    (hs : P (s.fader f')) (hg : f' = f → P (g (s.fader f))) : P ((s.modFader f g).fader f') := by
  rw [s.fader_modFader_ite]
  split
  · exact hg ‹_›
  · exact hs

section fields
variable (s : State) (f : FaderIx) (g : Fader → Fader)

@[simp] theorem State.modFader_now : (s.modFader f g).now = s.now := rfl
@[simp] theorem State.modFader_part : (s.modFader f g).part = s.part := rfl
@[simp] theorem State.modFader_settings : (s.modFader f g).settings = s.settings := rfl
@[simp] theorem State.modFader_stored : (s.modFader f g).stored = s.stored := rfl
@[simp] theorem State.modFader_storing : (s.modFader f g).storing = s.storing := rfl
@[simp] theorem State.modFader_profileValid : (s.modFader f g).profileValid = s.profileValid := rfl
@[simp] theorem State.modFader_queue : (s.modFader f g).queue = s.queue := rfl
@[simp] theorem State.modFader_groups : (s.modFader f g).groups = s.groups := rfl
@[simp] theorem State.modFader_group (x : GroupIx) : (s.modFader f g).group x = s.group x := rfl
@[simp] theorem State.modFader_pages : (s.modFader f g).pages = s.pages := rfl
@[simp] theorem State.modFader_recalls : (s.modFader f g).recalls = s.recalls := rfl
@[simp] theorem State.modFader_timeline : (s.modFader f g).timeline = s.timeline := rfl
@[simp] theorem State.modFader_meters : (s.modFader f g).meters = s.meters := rfl
@[simp] theorem State.modFader_stream : (s.modFader f g).stream = s.stream := rfl
@[simp] theorem State.modFader_scanner : (s.modFader f g).scanner = s.scanner := rfl
@[simp] theorem State.modFader_link : (s.modFader f g).link = s.link := rfl
@[simp] theorem State.modFader_notices : (s.modFader f g).notices = s.notices := rfl
@[simp] theorem State.modFader_pending : (s.modFader f g).pending = s.pending := rfl
@[simp] theorem State.modFader_config (f' : FaderIx) : (s.modFader f g).config f' = s.config f' := rfl
@[simp] theorem State.modFader_isPending (k : NoticeKey) : (s.modFader f g).isPending k = s.isPending k := rfl

end fields

/-! ## The items of one fader, each by its own update -/

section items
variable (s : State) (f : FaderIx)

@[simp] theorem State.modRecord_fader (g : FaderRecord → FaderRecord) :
    (s.modRecord f g).fader f = { s.fader f with record := g (s.fader f).record } := by simp [State.modRecord]
@[simp] theorem State.modMotion_fader (g : Motion → Motion) :
    (s.modMotion f g).fader f = { s.fader f with motion := g (s.fader f).motion } := by simp [State.modMotion]
@[simp] theorem State.modTrack_fader (g : Track → Track) :
    (s.modTrack f g).fader f = { s.fader f with track := g (s.fader f).track } := by simp [State.modTrack]
@[simp] theorem State.modTouch_fader (g : Touch → Touch) :
    (s.modTouch f g).fader f = { s.fader f with touch := g (s.fader f).touch } := by simp [State.modTouch]
@[simp] theorem State.modHeat_fader (g : Heat → Heat) :
    (s.modHeat f g).fader f = { s.fader f with heat := g (s.fader f).heat } := by simp [State.modHeat]
@[simp] theorem State.modFault_fader (g : FaultItems → FaultItems) :
    (s.modFault f g).fader f = { s.fader f with fault := g (s.fader f).fault } := by simp [State.modFault]
@[simp] theorem State.modLane_fader (g : Lane → Lane) :
    (s.modLane f g).fader f = { s.fader f with lane := g (s.fader f).lane } := by simp [State.modLane]
@[simp] theorem State.setCal_fader (c : Option CalRun) :
    (s.setCal f c).fader f = { s.fader f with cal := c } := by simp [State.setCal]

end items

/-! ## Reads of one fader after writes elsewhere -/

@[simp] theorem State.fader_raise (s : State) (n : Notice) (f : FaderIx) : (s.raise n).fader f = s.fader f := rfl
@[simp] theorem State.raise_settings (s : State) (n : Notice) : (s.raise n).settings = s.settings := rfl
@[simp] theorem State.raise_queue (s : State) (n : Notice) : (s.raise n).queue = s.queue := rfl
@[simp] theorem State.raise_groups (s : State) (n : Notice) : (s.raise n).groups = s.groups := rfl
@[simp] theorem State.raise_recalls (s : State) (n : Notice) : (s.raise n).recalls = s.recalls := rfl
@[simp] theorem State.raise_link (s : State) (n : Notice) : (s.raise n).link = s.link := rfl
@[simp] theorem State.raise_notices (s : State) (n : Notice) : (s.raise n).notices = raiseInto n s.notices := rfl
@[simp] theorem State.fader_leaveQueue (s : State) (f f' : FaderIx) : (s.leaveQueue f').fader f = s.fader f := rfl
@[simp] theorem State.leaveQueue_queue (s : State) (f : FaderIx) : (s.leaveQueue f).queue = s.queue.filter (· ≠ f) := rfl
@[simp] theorem State.fader_setGroup (s : State) (g : GroupIx) (r : Option Group) (f : FaderIx) :
    (s.setGroup g r).fader f = s.fader f := rfl
@[simp] theorem State.fader_modMember (s : State) (f f' : FaderIx) (h : Member → Member) :
    (s.modMember f h).fader f' = s.fader f' := rfl
@[simp] theorem State.fader_modSettings (s : State) (g : Settings → Settings) (f : FaderIx) :
    (s.modSettings g).fader f = s.fader f := rfl

/-! ## Groups -/

@[simp] theorem State.group_setGroup (s : State) (g : GroupIx) (r : Option Group) : (s.setGroup g r).group g = r := by
  simp [State.setGroup, State.group]

theorem State.group_setGroup_ne (s : State) {g g' : GroupIx} (r : Option Group) (h : g' ≠ g) :
    (s.setGroup g r).group g' = s.group g' := by
  have : g.val ≠ g'.val := fun e => h (Fin.ext e.symm)
  simp [State.setGroup, State.group, this]

@[simp] theorem State.group_modMember (s : State) (f : FaderIx) (h : Member → Member) (g : GroupIx) :
    (s.modMember f h).group g = (s.group g).map fun r => r.modMember f h := by
  simp [State.modMember, State.group]

/-! ## Settings, meters, pages -/

@[simp] theorem State.config_modConfig (s : State) (f : FaderIx) (g : FaderSettings → FaderSettings) :
    (s.modConfig f g).config f = g (s.config f) := by
  simp [State.modConfig, State.modSettings, State.config]

theorem State.config_modConfig_ne (s : State) {f f' : FaderIx} (g : FaderSettings → FaderSettings) (h : f' ≠ f) :
    (s.modConfig f g).config f' = s.config f' := by
  have : f.val ≠ f'.val := fun e => h (Fin.ext e.symm)
  simp [State.modConfig, State.modSettings, State.config, this]

@[simp] theorem State.meter_modMeter (s : State) (m : MeterIx) (g : Meter → Meter) :
    (s.modMeter m g).meter m = g (s.meter m) := by
  simp [State.modMeter, State.meter]

theorem State.meter_modMeter_ne (s : State) {m m' : MeterIx} (g : Meter → Meter) (h : m' ≠ m) :
    (s.modMeter m g).meter m' = s.meter m' := by
  have : m.val ≠ m'.val := fun e => h (Fin.ext e.symm)
  simp [State.modMeter, State.meter, this]

theorem State.meter_modMeter_ite (s : State) (m m' : MeterIx) (g : Meter → Meter) :
    (s.modMeter m g).meter m' = if m' = m then g (s.meter m) else s.meter m' := by
  split
  · subst m'; simp
  · exact s.meter_modMeter_ne g ‹_›

@[simp] theorem State.page_setPage (s : State) (p : PageIx) (x : Page) : (s.setPage p x).page p = x := by
  simp [State.setPage, State.page]

theorem State.page_setPage_ne (s : State) {p p' : PageIx} (x : Page) (h : p' ≠ p) :
    (s.setPage p x).page p' = s.page p' := by
  have : p.val ≠ p'.val := fun e => h (Fin.ext e.symm)
  simp [State.setPage, State.page, this]

/-! ## Two states agree when their fields do -/

/-- Two vectors of faders agree when every fader does. -/
theorem State.faders_ext {s t : State} (h : ∀ f, s.fader f = t.fader f) : s.faders = t.faders :=
  Vector.ext fun i hi => h ⟨i, hi⟩

end Sys2Proof.Machine
end

