-- ==== Sys2Proof/Laws/Frame.lean ====
section
/-! SUPPORT. The frame of Fader Control and its neighbours: every shared operation on fader records, motion, faults,
calibration, lanes, groups, the admission queue, recalls and notices leaves `State.base` as it was. -/

namespace Sys2Proof.Machine

/-! ## Primitive updates -/

theorem State.base_modFader (s : State) (f : FaderIx) (g : Fader → Fader) (h : ∀ x, (g x).senses = x.senses) :
    (s.modFader f g).base = s.base := by
  have : (s.modFader f g).faders.map Fader.senses = s.faders.map Fader.senses := by
    apply Vector.ext
    intro i hi
    have hh := h (s.fader f)
    simp only [Vector.getElem_map, State.modFader, Vector.getElem_set]
    split
    · rename_i e; subst e; exact hh
    · rfl
  unfold State.base
  rw [this]
  rfl

@[simp] theorem State.base_modRecord (s : State) (f : FaderIx) (g : FaderRecord → FaderRecord) :
    (s.modRecord f g).base = s.base := s.base_modFader f _ fun _ => rfl
@[simp] theorem State.base_modMotion (s : State) (f : FaderIx) (g : Motion → Motion) :
    (s.modMotion f g).base = s.base := s.base_modFader f _ fun _ => rfl
@[simp] theorem State.base_modFault (s : State) (f : FaderIx) (g : FaultItems → FaultItems) :
    (s.modFault f g).base = s.base := s.base_modFader f _ fun _ => rfl
@[simp] theorem State.base_modLane (s : State) (f : FaderIx) (g : Lane → Lane) :
    (s.modLane f g).base = s.base := s.base_modFader f _ fun _ => rfl
@[simp] theorem State.base_setCal (s : State) (f : FaderIx) (c : Option CalRun) :
    (s.setCal f c).base = s.base := s.base_modFader f _ fun _ => rfl
@[simp] theorem State.base_raise (s : State) (n : Notice) : (s.raise n).base = s.base := rfl
@[simp] theorem State.base_setGroup (s : State) (g : GroupIx) (r : Option Group) : (s.setGroup g r).base = s.base := rfl
@[simp] theorem State.base_modMember (s : State) (f : FaderIx) (h : Member → Member) :
    (s.modMember f h).base = s.base := rfl
@[simp] theorem State.base_leaveQueue (s : State) (f : FaderIx) : (s.leaveQueue f).base = s.base := rfl
@[simp] theorem State.base_queue (s : State) (q : List FaderIx) : { s with queue := q }.base = s.base := rfl
@[simp] theorem State.base_recalls (s : State) (l : List Recall) : { s with recalls := l }.base = s.base := rfl

theorem State.base_each (g : FaderIx → State → State) (h : ∀ f s, (g f s).base = s.base) (l : List FaderIx) (s : State) :
    (s.each l g).base = s.base := by
  unfold State.each
  induction l generalizing s with
  | nil => rfl
  | cons f l ih => rw [List.foldl_cons, ih, h]

/-! ## Shared operations (Ops.lean) -/

@[simp] theorem State.base_moveTest (s : State) (f : FaderIx) : (s.moveTest f).base = s.base := by
  unfold State.moveTest; split <;> rfl
@[simp] theorem State.base_entryTest (s : State) (f : FaderIx) (q : Bool) : (s.entryTest f q).base = s.base := by
  unfold State.entryTest; split <;> simp
@[simp] theorem State.base_retrim (s : State) (f : FaderIx) : (s.retrim f).base = s.base := by
  unfold State.retrim; split <;> simp
@[simp] theorem State.base_callRetrim (s : State) (f : FaderIx) : (s.callRetrim f).base = s.base := by
  unfold State.callRetrim; split <;> simp
@[simp] theorem State.base_deferredRetrim (s : State) (f : FaderIx) : (s.deferredRetrim f).base = s.base := by
  unfold State.deferredRetrim; split <;> (try split) <;> simp
@[simp] theorem State.base_claimEnded (s : State) (f : FaderIx) (c : Claim) : (s.claimEnded f c).base = s.base := by
  unfold State.claimEnded
  split <;> simp [State.base_each]
@[simp] theorem State.base_layRampFor (s : State) (f : FaderIx) (n d : Nat) : (s.layRampFor f n d).base = s.base := by
  simp [State.layRampFor]
@[simp] theorem State.base_layRamp (s : State) (f : FaderIx) (n : Nat) : (s.layRamp f n).base = s.base := by
  simp [State.layRamp]
@[simp] theorem State.base_relayRamp (s : State) (f : FaderIx) : (s.relayRamp f).base = s.base := by
  unfold State.relayRamp; split <;> simp
@[simp] theorem State.base_motorOff (s : State) (f : FaderIx) : (s.motorOff f).base = s.base := by
  simp [State.motorOff]
@[simp] theorem State.base_goTo (s : State) (f : FaderIx) (st : FaderState) : (s.goTo f st).base = s.base := by
  simp only [State.goTo]
  split <;> split <;> split <;> simp
@[simp] theorem State.base_holdHere (s : State) (f : FaderIx) : (s.holdHere f).base = s.base := by
  simp [State.holdHere]
@[simp] theorem State.base_clearClaim (s : State) (f : FaderIx) : (s.clearClaim f).base = s.base := by
  simp [State.clearClaim]
@[simp] theorem State.base_endCalibration (s : State) (f : FaderIx) (o : CalOutcome) (n : Option Int) :
    (s.endCalibration f o n).base = s.base := by
  unfold State.endCalibration; split <;> simp
@[simp] theorem State.base_trip (s : State) (f : FaderIx) (q : Bool) : (s.trip f q).base = s.base := by
  unfold State.trip; split <;> (try split) <;> simp
@[simp] theorem State.base_tripTest (s : State) (f : FaderIx) (q : Bool) : (s.tripTest f q).base = s.base := by
  unfold State.tripTest; split <;> simp
@[simp] theorem State.base_enterCalPhase (s : State) (f : FaderIx) (p : CalPhase) :
    (s.enterCalPhase f p).base = s.base := by simp [State.enterCalPhase]
@[simp] theorem State.base_grantTo (s : State) (f : FaderIx) : (s.grantTo f).base = s.base := by
  simp only [State.grantTo]; split <;> simp
theorem base_grantAlong (l : List FaderIx) (s : State) : (grantAlong l s).base = s.base := by
  induction l generalizing s with
  | nil => rfl
  | cons f l ih => unfold grantAlong; split <;> simp [ih]
@[simp] theorem State.base_grant (s : State) : s.grant.base = s.base := base_grantAlong _ _
@[simp] theorem State.base_enterWaiting (s : State) (f : FaderIx) (q : Bool) : (s.enterWaiting f q).base = s.base := by
  simp [State.enterWaiting]
@[simp] theorem State.base_disableLane (s : State) (f : FaderIx) (r : Option LaneReason) :
    (s.disableLane f r).base = s.base := by
  unfold State.disableLane; split <;> (try split) <;> simp
@[simp] theorem State.base_writeOutcome (s : State) (t i : Nat) (o : Outcome) : (s.writeOutcome t i o).base = s.base := by
  unfold State.writeOutcome; split <;> (try split) <;> (try split) <;> rfl

/-! ## Fader Control (Fader.lean) -/

@[simp] theorem State.base_reportEnd (s : State) (f : FaderIx) (o : Outcome) : (s.reportEnd f o).base = s.base := by
  unfold State.reportEnd; split <;> (try split) <;> simp
@[simp] theorem State.base_memberLeadEnd (s : State) (g : GroupIx) (f : FaderIx) :
    (s.memberLeadEnd g f).base = s.base := by
  unfold State.memberLeadEnd; split <;> simp
@[simp] theorem State.base_evalLead (s : State) (f : FaderIx) : (s.evalLead f).base = s.base := by
  unfold State.evalLead
  split
  · rfl
  · split
    · rfl
    · simp only []; split <;> simp [State.base_each]
@[simp] theorem State.base_dropClaim (s : State) (f : FaderIx) (o : Outcome) : (s.dropClaim f o).base = s.base := by
  simp only [State.dropClaim]; split <;> simp
@[simp] theorem State.base_endClaim (s : State) (f : FaderIx) (o : Outcome) : (s.endClaim f o).base = s.base := by
  simp [State.endClaim]
@[simp] theorem State.base_resolveArrival (s : State) (f : FaderIx) : (s.resolveArrival f).base = s.base := by
  simp only [State.resolveArrival]; split <;> (try split) <;> simp
@[simp] theorem State.base_arrive (s : State) (f : FaderIx) : (s.arrive f).base = s.base := by
  simp [State.arrive]
@[simp] theorem State.base_arriveAtOnce (s : State) (f : FaderIx) (t : Nat) (q : Bool) :
    (s.arriveAtOnce f t q).base = s.base := by
  simp only [State.arriveAtOnce]; split <;> simp
@[simp] theorem State.base_seek (s : State) (f : FaderIx) (t : Nat) (q : Bool) : (s.seek f t q).base = s.base := by
  simp only [State.seek]; split <;> simp
@[simp] theorem State.base_takeClaim (s : State) (f : FaderIx) (c : Claim) (t : Nat) (p d e : Option Time) :
    (s.takeClaim f c t p d e).base = s.base := by
  simp only [State.takeClaim]; split <;> split <;> split <;> split <;> simp
@[simp] theorem State.base_retarget (s : State) (f : FaderIx) (t : Nat) : (s.retarget f t).base = s.base := by
  simp only [State.retarget]
  split
  · rfl
  · split <;> (try split) <;> simp
@[simp] theorem State.base_touchOnRecord (s : State) (f : FaderIx) : (s.touchOnRecord f).base = s.base := by
  simp only [State.touchOnRecord]
  split
  · rfl
  · rfl
  · simp
  · split <;> split <;> simp
@[simp] theorem State.base_settleTouch (s : State) (f : FaderIx) : (s.settleTouch f).base = s.base := by
  simp only [State.settleTouch]; split <;> (try split) <;> (try split) <;> simp
@[simp] theorem State.base_touchOffRecord (s : State) (f : FaderIx) : (s.touchOffRecord f).base = s.base := by
  simp only [State.touchOffRecord]; split <;> (try split) <;> (try split) <;> simp
@[simp] theorem State.base_faultRecord (s : State) (f : FaderIx) : (s.faultRecord f).base = s.base := by
  simp only [State.faultRecord]; split <;> split <;> simp
@[simp] theorem State.base_leaveFaulted (s : State) (f : FaderIx) : (s.leaveFaulted f).base = s.base := by
  simp only [State.leaveFaulted]; split <;> simp
@[simp] theorem State.base_parkHere (s : State) (f : FaderIx) : (s.parkHere f).base = s.base := by
  simp [State.parkHere]
@[simp] theorem State.base_parkCalibrated (s : State) (f : FaderIx) : (s.parkCalibrated f).base = s.base := by
  simp [State.parkCalibrated]
@[simp] theorem State.base_driftTest (s : State) (f : FaderIx) : (s.driftTest f).base = s.base := by
  unfold State.driftTest; split <;> simp
@[simp] theorem State.base_handFollow (s : State) (g : GroupIx) (p : Nat) (f : FaderIx) :
    (s.handFollow g p f).base = s.base := by
  simp only [State.handFollow]; split <;> (try split) <;> (try split) <;> simp
@[simp] theorem State.base_followMaster (s : State) (f : FaderIx) : (s.followMaster f).base = s.base := by
  unfold State.followMaster; split <;> (try split) <;> simp [State.base_each]
@[simp] theorem State.base_positionChange (s : State) (f : FaderIx) : (s.positionChange f).base = s.base := by
  simp only [State.positionChange]; split <;> simp
@[simp] theorem State.base_tripEvent (s : State) (f : FaderIx) : (s.tripEvent f).base = s.base := by
  simp [State.tripEvent]
@[simp] theorem State.base_resume (s : State) (f : FaderIx) : (s.resume f).base = s.base := by
  simp only [State.resume]; split <;> simp
@[simp] theorem State.base_resumeTest (s : State) (f : FaderIx) : (s.resumeTest f).base = s.base := by
  unfold State.resumeTest; split <;> simp

/-! ## The Recall Engine (Recall.lean) -/

@[simp] theorem State.base_handEntry (s : State) (t p : Nat) (run : RecallRun) (e : Entry) (i : Nat) :
    (s.handEntry t p run e i).base = s.base := by
  simp only [State.handEntry]; split <;> simp
@[simp] theorem base_handEntries (t p : Nat) (run : RecallRun) (l : List (Entry × Nat)) (s : State) :
    (handEntries t p run l s).base = s.base := by
  induction l generalizing s with
  | nil => rfl
  | cons x l ih => obtain ⟨e, i⟩ := x; simp [handEntries, ih]
@[simp] theorem State.base_startHead (s : State) : s.startHead.base = s.base := by
  unfold State.startHead; split <;> simp
@[simp] theorem State.base_startTest (s : State) (c : TestCause) : (s.startTest c).base = s.base := by
  unfold State.startTest; split <;> simp
@[simp] theorem base_settleAlong (n : Nat) (s : State) : (settleAlong n s).base = s.base := by
  induction n generalizing s with
  | zero => rfl
  | succ n ih =>
    unfold settleAlong
    split
    · rfl
    · split
      · rfl
      · split
        · rw [ih]; simp
        · rfl
@[simp] theorem State.base_settleRecalls (s : State) : s.settleRecalls.base = s.base := base_settleAlong _ _
@[simp] theorem base_haltEntries (l : List (Entry × Nat)) (s : State) : (haltEntries l s).base = s.base := by
  induction l generalizing s with
  | nil => rfl
  | cons x l ih => obtain ⟨e, i⟩ := x; unfold haltEntries; rw [ih]; split <;> simp
@[simp] theorem base_recallsTornDown (l : List Recall) (s : State) : (recallsTornDown l s).base = s.base := by
  induction l generalizing s with
  | nil => rfl
  | cons r l ih => simp [recallsTornDown, ih]

/-! ## Lanes (Timeline.lean) -/

@[simp] theorem State.base_handLaneValue (s : State) (f : FaderIx) (v : Nat) (j : Bool) :
    (s.handLaneValue f v j).base = s.base := by
  unfold State.handLaneValue; split <;> simp
@[simp] theorem State.base_laneCount (s : State) (f : FaderIx) (j : Bool) : (s.laneCount f j).base = s.base := by
  simp only [State.laneCount]; split <;> split <;> (try split) <;> simp
@[simp] theorem State.base_countChange (s : State) (j : Bool) : (s.countChange j).base = s.base := by
  simp [State.countChange, State.base_each]
@[simp] theorem State.base_flushLane (s : State) (f : FaderIx) : (s.flushLane f).base = s.base := by
  simp only [State.flushLane]; split <;> simp
@[simp] theorem State.base_backwardJump (s : State) : s.backwardJump.base = s.base := by
  simp [State.backwardJump, State.base_each]
@[simp] theorem State.base_tearLane (s : State) (f : FaderIx) : (s.tearLane f).base = s.base := by
  simp only [State.tearLane]; split <;> (try split) <;> simp

/-! ## Faults and calibration -/

@[simp] theorem State.base_latch (s : State) (f : FaderIx) (c : Cond) : (s.latch f c).base = s.base := by
  simp only [State.latch]; split <;> (try split) <;> simp
@[simp] theorem State.base_latchIfWatched (s : State) (f : FaderIx) (c : Cond) :
    (s.latchIfWatched f c).base = s.base := by
  unfold State.latchIfWatched; split <;> simp
@[simp] theorem State.base_monitor (s : State) (f : FaderIx) (a x : Bool) : (s.monitor f a x).base = s.base := by
  simp only [State.monitor, State.stallSample, State.trackSample, State.overcurrentSample]; split <;> simp
@[simp] theorem State.base_latchWatched (s : State) (f : FaderIx) : (s.latchWatched f).base = s.base := by
  simp [State.latchWatched, allConds]
@[simp] theorem State.base_clearFaults (s : State) (f : FaderIx) (c : CondSet) : (s.clearFaults f c).base = s.base := by
  simp only [State.clearFaults]; split <;> (try split) <;> simp
@[simp] theorem State.base_calibrateOne (s : State) (f : FaderIx) : (s.calibrateOne f).base = s.base := by
  simp only [State.calibrateOne]; split <;> simp
@[simp] theorem State.base_calMoves (s : State) (f : FaderIx) : (s.calMoves f).base = s.base := by simp [State.calMoves]
@[simp] theorem State.base_calDownEnds (s : State) (f : FaderIx) : (s.calDownEnds f).base = s.base := by
  simp [State.calDownEnds]
@[simp] theorem State.base_calUpEnds (s : State) (f : FaderIx) : (s.calUpEnds f).base = s.base := by
  simp only [State.calUpEnds]; split <;> simp
@[simp] theorem State.base_calTimeout (s : State) (f : FaderIx) : (s.calTimeout f).base = s.base := by
  simp [State.calTimeout]
@[simp] theorem State.base_calSample (s : State) (f : FaderIx) : (s.calSample f).base = s.base := by
  unfold State.calSample
  split
  · split <;> (try split) <;> simp
  · split <;> (try split) <;> simp
  · rfl
@[simp] theorem State.base_rejectCalibration (s : State) (f : FaderIx) : (s.rejectCalibration f).base = s.base := by
  simp [State.rejectCalibration]
@[simp] theorem State.base_releaseMember (g : GroupIx) (f : FaderIx) (s : State) :
    (s.releaseMember g f).base = s.base := by
  simp only [State.releaseMember]; split <;> (try split) <;> simp
@[simp] theorem State.base_stopHere (s : State) (f : FaderIx) : (s.stopHere f).base = s.base := by
  unfold State.stopHere; split <;> (try split) <;> simp
@[simp] theorem State.base_tearFader (f : FaderIx) (s : State) : (s.tearFader f).base = s.base := by
  unfold State.tearFader; split <;> simp
@[simp] theorem State.base_tearCalibration (f : FaderIx) (s : State) : (s.tearCalibration f).base = s.base := by
  unfold State.tearCalibration; split <;> simp
@[simp] theorem State.base_windowTest (s : State) (f : FaderIx) : (s.windowTest f).base = s.base := by
  unfold State.windowTest; split <;> (try split) <;> simp
@[simp] theorem State.base_arriveIfDue (s : State) (f : FaderIx) : (s.arriveIfDue f).base = s.base := by
  unfold State.arriveIfDue; split <;> simp
@[simp] theorem State.base_sampleEnds (s : State) (f : FaderIx) (a x : Bool) : (s.sampleEnds f a x).base = s.base := by
  simp only [State.sampleEnds]; split <;> simp

/-! ## What `base` holds, read off two states with equal bases -/

theorem State.senses_of_base {s t : State} (h : t.base = s.base) (f : FaderIx) :
    (t.fader f).senses = (s.fader f).senses := by
  have := congrArg (fun x : State => x.faders[f.val]) h
  simpa [State.base, State.fader] using this

theorem State.track_of_base {s t : State} (h : t.base = s.base) (f : FaderIx) :
    (t.fader f).track = (s.fader f).track := (congrArg Fader.track (State.senses_of_base h f) :)
theorem State.touch_of_base {s t : State} (h : t.base = s.base) (f : FaderIx) :
    (t.fader f).touch = (s.fader f).touch := (congrArg Fader.touch (State.senses_of_base h f) :)
theorem State.heat_of_base {s t : State} (h : t.base = s.base) (f : FaderIx) :
    (t.fader f).heat = (s.fader f).heat := (congrArg Fader.heat (State.senses_of_base h f) :)
theorem State.now_of_base {s t : State} (h : t.base = s.base) : t.now = s.now := (congrArg State.now h :)
theorem State.part_of_base {s t : State} (h : t.base = s.base) : t.part = s.part := (congrArg State.part h :)
theorem State.settings_of_base {s t : State} (h : t.base = s.base) : t.settings = s.settings :=
  (congrArg State.settings h :)
theorem State.stored_of_base {s t : State} (h : t.base = s.base) : t.stored = s.stored := (congrArg State.stored h :)
theorem State.storing_of_base {s t : State} (h : t.base = s.base) : t.storing = s.storing := (congrArg State.storing h :)
theorem State.pages_of_base {s t : State} (h : t.base = s.base) : t.pages = s.pages := (congrArg State.pages h :)
theorem State.timeline_of_base {s t : State} (h : t.base = s.base) : t.timeline = s.timeline :=
  (congrArg State.timeline h :)
theorem State.meters_of_base {s t : State} (h : t.base = s.base) : t.meters = s.meters := (congrArg State.meters h :)
theorem State.link_of_base {s t : State} (h : t.base = s.base) : t.link = s.link := (congrArg State.link h :)
theorem State.pending_of_base {s t : State} (h : t.base = s.base) : t.pending = s.pending := (congrArg State.pending h :)

end Sys2Proof.Machine
end

