-- ==== Sys2Proof/Laws/Link.lean ====
section
/-! SUPPORT. How a request row is taken: what contact leaves, and what the line shows after an addressed and a broadcast
request. -/

namespace Sys2Proof.Machine

@[simp] theorem State.contact_link (s : State) : s.contact.link = { s.link with supStart := s.now, lost := false } := by
  simp only [State.contact]; split <;> rfl
@[simp] theorem State.contact_base (s : State) :
    s.contact.base = { s.base with link := { s.link with supStart := s.now, lost := false } } := by
  simp only [State.contact]; split <;> rfl
@[simp] theorem State.contact_faders (s : State) : s.contact.faders = s.faders := by
  simp only [State.contact]; split <;> rfl
@[simp] theorem State.contact_fader (s : State) (f : FaderIx) : s.contact.fader f = s.fader f := by
  simp only [State.contact]; split <;> rfl
@[simp] theorem State.contact_now (s : State) : s.contact.now = s.now := by
  simp only [State.contact]; split <;> rfl
@[simp] theorem State.contact_part (s : State) : s.contact.part = s.part := by
  simp only [State.contact]; split <;> rfl
@[simp] theorem State.contact_settings (s : State) : s.contact.settings = s.settings := by
  simp only [State.contact]; split <;> rfl
@[simp] theorem State.contact_config (s : State) (f : FaderIx) : s.contact.config f = s.config f := by
  simp only [State.contact]; split <;> rfl
@[simp] theorem State.contact_stored (s : State) : s.contact.stored = s.stored := by
  simp only [State.contact]; split <;> rfl
@[simp] theorem State.contact_storing (s : State) : s.contact.storing = s.storing := by
  simp only [State.contact]; split <;> rfl
@[simp] theorem State.contact_profileValid (s : State) : s.contact.profileValid = s.profileValid := by
  simp only [State.contact]; split <;> rfl
@[simp] theorem State.contact_queue (s : State) : s.contact.queue = s.queue := by
  simp only [State.contact]; split <;> rfl
@[simp] theorem State.contact_groups (s : State) : s.contact.groups = s.groups := by
  simp only [State.contact]; split <;> rfl
@[simp] theorem State.contact_group (s : State) (g : GroupIx) : s.contact.group g = s.group g := by
  simp only [State.contact]; split <;> rfl
@[simp] theorem State.contact_pages (s : State) : s.contact.pages = s.pages := by
  simp only [State.contact]; split <;> rfl
@[simp] theorem State.contact_page (s : State) (p : PageIx) : s.contact.page p = s.page p := by
  simp only [State.contact]; split <;> rfl
@[simp] theorem State.contact_recalls (s : State) : s.contact.recalls = s.recalls := by
  simp only [State.contact]; split <;> rfl
@[simp] theorem State.contact_timeline (s : State) : s.contact.timeline = s.timeline := by
  simp only [State.contact]; split <;> rfl
@[simp] theorem State.contact_meters (s : State) : s.contact.meters = s.meters := by
  simp only [State.contact]; split <;> rfl
@[simp] theorem State.contact_pending (s : State) : s.contact.pending = s.pending := by
  simp only [State.contact]; split <;> rfl
@[simp] theorem State.contact_stateOf (s : State) (f : FaderIx) : s.contact.stateOf f = s.stateOf f := by
  simp [State.stateOf]
@[simp] theorem State.contact_claimOf (s : State) (f : FaderIx) : s.contact.claimOf f = s.claimOf f := by
  simp [State.claimOf]
@[simp] theorem State.contact_posOf (s : State) (f : FaderIx) : s.contact.posOf f = s.posOf f := by
  simp [State.posOf]

/-- While in contact, contact only restarts the supervision timer (R159). -/
theorem State.contact_eq (s : State) (h : s.link.lost = false) :
    s.contact = { s with link := { s.link with supStart := s.now } } := by
  simp [State.contact, h]

/-- A request row heard: taken after contact, and closed on the line as it was addressed. -/
theorem takeRequest_heard {k : Nat} {c : Bool} {d : Dest} {act : State → Taken} {s : State} (h : s.hears = true)
    (hc : d = .addressed ∨ c = true) :
    takeRequest k c d act s =
      .next (s.closed (act s.contact).st d k (act s.contact).status (act s.contact).data) := by
  cases d <;> simp_all [takeRequest, State.takeValid, State.closed]

/-- A request row not heard has no effect. -/
theorem takeRequest_unheard {k : Nat} {c : Bool} {d : Dest} {act : State → Taken} {s : State} (h : s.hears = false) :
    takeRequest k c d act s = .next s := by
  simp [takeRequest, h]

/-- An addressed-only kind that is broadcast is ignored, but counts for supervision (R157, R159). -/
theorem takeRequest_ignored {k : Nat} {act : State → Taken} {s : State} (h : s.hears = true) :
    takeRequest k false .broadcast act s = .next s.contact.waitIdle := by
  simp [takeRequest, State.takeValid, h]

end Sys2Proof.Machine
end

