-- ==== Sys2Proof/Laws/Ops.lean ====
section
/-! SUPPORT. What the shared operations of Machine/Ops.lean do, once for each: a raise, a transition, a ramp laid, the motor
off, a hold at the position, a claim cleared, a slot granted, a lane disabled, an outcome written. -/

namespace Sys2Proof.Machine

/-! ## Notices -/

theorem Notice.refresh_key {n m : Notice} (h : m.key = n.key) : (n.refresh m).key = n.key := by
  cases n <;> cases m <;> simp_all [Notice.refresh, Notice.key]

/-- A raise keeps the keys in order and adds its own at the tail where it is new (R164). -/
theorem raiseInto_keys (n : Notice) (l : List Notice) :
    (raiseInto n l).map Notice.key =
      if n.key ∈ l.map Notice.key then l.map Notice.key else l.map Notice.key ++ [n.key] := by
  induction l with
  | nil => rfl
  | cons m l ih =>
    unfold raiseInto
    by_cases h : m.key = n.key
    · simp [h, Notice.refresh_key h]
    · have h' : n.key ≠ m.key := fun e => h e.symm
      simp only [h, if_false, List.map_cons, ih, List.mem_cons, h', false_or]
      split <;> rfl

/-- A raise keeps keys distinct (R163). -/
theorem raiseInto_nodup (n : Notice) {l : List Notice} (h : (l.map Notice.key).Nodup) :
    ((raiseInto n l).map Notice.key).Nodup := by
  rw [raiseInto_keys]
  split
  · exact h
  · rename_i hn
    exact List.nodup_append.2 ⟨h, List.nodup_singleton _, by
      intro a ha b hb e
      rw [List.mem_singleton] at hb
      exact hn (hb ▸ e ▸ ha)⟩

/-- A notice other than LINK is pending with its fields after its raise. -/
theorem mem_raiseInto (n : Notice) (l : List Notice) (h : n.key ≠ .part .link) : n ∈ raiseInto n l := by
  induction l with
  | nil => exact List.mem_singleton.2 rfl
  | cons m l ih =>
    unfold raiseInto
    split
    · have : n.refresh m = n := by cases n <;> simp_all [Notice.refresh, Notice.key]
      rw [this]
      exact List.mem_cons_self
    · exact List.mem_cons_of_mem _ ih

/-- A notice of another key stays pending through a raise. -/
theorem mem_raiseInto_of_ne {n m : Notice} {l : List Notice} (hm : m ∈ l) (h : m.key ≠ n.key) : m ∈ raiseInto n l := by
  induction l with
  | nil => cases hm
  | cons x l ih =>
    unfold raiseInto
    rcases List.mem_cons.1 hm with rfl | hm
    · simp [h]
    · split
      · exact List.mem_cons_of_mem _ hm
      · exact List.mem_cons_of_mem _ (ih hm)

theorem State.noticesDistinct_raise {s : State} (n : Notice) (h : s.noticesDistinct) : (s.raise n).noticesDistinct :=
  raiseInto_nodup n h

/-! ## Updates of one fader's parts: the rest of the state -/

section rest
variable (s : State) (f : FaderIx)

@[simp] theorem State.modRecord_notices (g : FaderRecord → FaderRecord) : (s.modRecord f g).notices = s.notices := rfl
@[simp] theorem State.modRecord_queue (g : FaderRecord → FaderRecord) : (s.modRecord f g).queue = s.queue := rfl
@[simp] theorem State.modRecord_recalls (g : FaderRecord → FaderRecord) : (s.modRecord f g).recalls = s.recalls := rfl
@[simp] theorem State.modRecord_groups (g : FaderRecord → FaderRecord) : (s.modRecord f g).groups = s.groups := rfl
@[simp] theorem State.modMotion_notices (g : Motion → Motion) : (s.modMotion f g).notices = s.notices := rfl
@[simp] theorem State.modMotion_queue (g : Motion → Motion) : (s.modMotion f g).queue = s.queue := rfl
@[simp] theorem State.modMotion_recalls (g : Motion → Motion) : (s.modMotion f g).recalls = s.recalls := rfl
@[simp] theorem State.modMotion_groups (g : Motion → Motion) : (s.modMotion f g).groups = s.groups := rfl

theorem State.modRecord_fader_ne {f' : FaderIx} (g : FaderRecord → FaderRecord) (h : f' ≠ f) :
    (s.modRecord f g).fader f' = s.fader f' := s.fader_modFader_ne _ h
theorem State.modMotion_fader_ne {f' : FaderIx} (g : Motion → Motion) (h : f' ≠ f) :
    (s.modMotion f g).fader f' = s.fader f' := s.fader_modFader_ne _ h

end rest

/-! ## Transitions -/

/-- A transition's effect on the fader itself: its state, and the motor off in a state that is not driven (R16, R42). -/
theorem State.goTo_fader (s : State) (f : FaderIx) (st : FaderState) :
    (s.goTo f st).fader f = { s.fader f with
      record := { (s.fader f).record with state := st }
      motion := if st.driven then (s.fader f).motion
        else { (s.fader f).motion with ramp := .none, drive := 0, settleCount := 0, granted := none } } := by
  simp only [State.goTo]
  split <;> split <;> split <;> simp_all [State.motorOff, State.fader] <;> simp_all [State.modRecord, State.modMotion,
    State.modFader, State.leaveQueue, State.fader]

/-- A transition leaves the other faders alone. -/
theorem State.goTo_fader_ne (s : State) {f f' : FaderIx} (st : FaderState) (h : f' ≠ f) :
    (s.goTo f st).fader f' = s.fader f' := by
  have e : ∀ (t : State) (g : FaderRecord → FaderRecord), (t.modRecord f g).fader f' = t.fader f' :=
    fun t g => t.modRecord_fader_ne f g h
  have m : ∀ t : State, (t.motorOff f).fader f' = t.fader f' := fun t => t.modMotion_fader_ne f _ h
  have q : ∀ (t : State) (l : List FaderIx), { t with queue := l }.fader f' = t.fader f' := fun _ _ => rfl
  simp only [State.goTo]
  split <;> split <;> split <;> simp only [q, e, m, State.fader_leaveQueue]

/-- A transition's effect on the admission queue (R59). -/
theorem State.goTo_queue (s : State) (f : FaderIx) (st : FaderState) :
    (s.goTo f st).queue = (if (s.stateOf f).queued then s.queue.filter (· ≠ f) else s.queue) ++
      if st.queued then [f] else [] := by
  simp only [State.goTo, State.motorOff]
  split <;> split <;> split <;> simp [State.leaveQueue]

@[simp] theorem State.goTo_notices (s : State) (f : FaderIx) (st : FaderState) : (s.goTo f st).notices = s.notices := by
  simp only [State.goTo, State.motorOff]
  split <;> split <;> split <;> rfl
@[simp] theorem State.goTo_recalls (s : State) (f : FaderIx) (st : FaderState) : (s.goTo f st).recalls = s.recalls := by
  simp only [State.goTo, State.motorOff]
  split <;> split <;> split <;> rfl
@[simp] theorem State.goTo_groups (s : State) (f : FaderIx) (st : FaderState) : (s.goTo f st).groups = s.groups := by
  simp only [State.goTo, State.motorOff]
  split <;> split <;> split <;> rfl

/-! ## Ramps, holds and claims -/

/-- A ramp whose start equals its end lasts 0 ms (R44). -/
@[simp] theorem rampDuration_zero (now : Time) (planned : Option Time) (speed : Nat) :
    rampDuration now planned 0 speed = 0 := rfl
/-- A ramp that leads somewhere lasts the longer of the time remaining and the speed time (R43). -/
theorem rampDuration_pos (now : Time) (planned : Option Time) {distance : Nat} (speed : Nat) (h : distance ≠ 0) :
    rampDuration now planned distance speed =
      max (ceilDiv (planned.getD now - now) 3) (ceilDiv (2 * distance) speed) := if_neg h
@[simp] theorem State.layRampFor_fader (s : State) (f : FaderIx) (start duration : Nat) :
    (s.layRampFor f start duration).fader f = { s.fader f with motion := { (s.fader f).motion with
      setpoint := start, ramp := .running ⟨start, s.targetOf f, s.now, duration⟩, settleCount := 0 } } := by
  simp [State.layRampFor]
@[simp] theorem State.layRamp_fader (s : State) (f : FaderIx) (start : Nat) :
    (s.layRamp f start).fader f = { s.fader f with motion := { (s.fader f).motion with
      setpoint := start
      ramp := .running ⟨start, s.targetOf f, s.now,
        rampDuration s.now (s.fader f).record.planned (dist start (s.targetOf f)) (s.config f).speedLimit⟩
      settleCount := 0 } } := by
  simp [State.layRamp]
/-- At a target change in TRAVEL the ramp leads from the setpoint to the target (R45). -/
theorem State.relayRamp_fader (s : State) (f : FaderIx) :
    ∃ d, (s.relayRamp f).fader f = { s.fader f with motion := { (s.fader f).motion with
      ramp := .running ⟨(s.fader f).motion.setpoint, s.targetOf f, s.now, d⟩, settleCount := 0 } } := by
  unfold State.relayRamp
  split
  · exact ⟨_, State.layRampFor_fader _ _ _ _⟩
  · exact ⟨_, State.layRamp_fader _ _ _⟩
@[simp] theorem State.motorOff_fader (s : State) (f : FaderIx) :
    (s.motorOff f).fader f = { s.fader f with
      motion := { (s.fader f).motion with ramp := .none, drive := 0, settleCount := 0, granted := none } } := by
  simp [State.motorOff]
@[simp] theorem State.holdHere_fader (s : State) (f : FaderIx) :
    (s.holdHere f).fader f = { s.fader f with
      record := { (s.fader f).record with target := s.posOf f, hold := s.posOf f } } := by
  simp [State.holdHere]
@[simp] theorem State.clearClaim_fader (s : State) (f : FaderIx) :
    (s.clearClaim f).fader f = { s.fader f with
      record := { (s.fader f).record with claim := .none, planned := none, deadline := none, expiry := none } } := by
  simp [State.clearClaim]

theorem State.layRamp_fader_ne (s : State) {f f' : FaderIx} (n : Nat) (h : f' ≠ f) :
    (s.layRamp f n).fader f' = s.fader f' := s.modMotion_fader_ne f _ h
theorem State.holdHere_fader_ne (s : State) {f f' : FaderIx} (h : f' ≠ f) : (s.holdHere f).fader f' = s.fader f' :=
  s.modRecord_fader_ne f _ h
theorem State.clearClaim_fader_ne (s : State) {f f' : FaderIx} (h : f' ≠ f) : (s.clearClaim f).fader f' = s.fader f' :=
  s.modRecord_fader_ne f _ h

/-! ## Slots -/

/-- A driven calibration phase: its state, and its drive level (R82, R83). -/
theorem State.enterCalPhase_fader (s : State) (f : FaderIx) {p : CalPhase} (h : (FaderState.calibrating p).driven = true) :
    (s.enterCalPhase f p).fader f = { s.fader f with
      record := { (s.fader f).record with state := .calibrating p }
      motion := { (s.fader f).motion with drive := p.drive } } := by
  simp [State.enterCalPhase, State.goTo_fader, h]
theorem State.enterCalPhase_fader_ne (s : State) {f f' : FaderIx} (p : CalPhase) (h : f' ≠ f) :
    (s.enterCalPhase f p).fader f' = s.fader f' := by
  rw [State.enterCalPhase, State.modMotion_fader_ne _ _ _ h, State.goTo_fader_ne _ _ h]

theorem State.grantTo_fader_ne (s : State) {f f' : FaderIx} (h : f' ≠ f) : (s.grantTo f).fader f' = s.fader f' := by
  simp only [State.grantTo]
  split
  · rw [State.modMotion_fader_ne _ _ _ h, State.layRamp_fader_ne _ _ h, State.goTo_fader_ne _ _ h, State.fader_leaveQueue]
  · rw [State.setCal, State.fader_modFader_ne _ _ h, State.modFault, State.fader_modFader_ne _ _ h,
      State.enterCalPhase_fader_ne _ _ h, State.fader_leaveQueue]
  · rw [State.fader_leaveQueue]

@[simp] theorem State.grantTo_notices (s : State) (f : FaderIx) : (s.grantTo f).notices = s.notices := by
  simp only [State.grantTo]
  split <;> simp [State.layRamp, State.layRampFor, State.leaveQueue, State.setCal, State.modFault,
    State.enterCalPhase]
@[simp] theorem State.grantTo_recalls (s : State) (f : FaderIx) : (s.grantTo f).recalls = s.recalls := by
  simp only [State.grantTo]
  split <;> simp [State.layRamp, State.layRampFor, State.leaveQueue, State.setCal, State.modFault,
    State.enterCalPhase]
@[simp] theorem State.grantTo_groups (s : State) (f : FaderIx) : (s.grantTo f).groups = s.groups := by
  simp only [State.grantTo]
  split <;> simp [State.layRamp, State.layRampFor, State.leaveQueue, State.setCal, State.modFault,
    State.enterCalPhase]

theorem grantAlong_fader_ne (l : List FaderIx) (s : State) {f : FaderIx} (h : f ∉ l) :
    (grantAlong l s).fader f = s.fader f := by
  induction l generalizing s with
  | nil => rfl
  | cons x l ih =>
    rw [List.mem_cons, not_or] at h
    unfold grantAlong
    split
    · rw [ih _ h.2, State.grantTo_fader_ne _ h.1]
    · rfl
theorem grantAlong_kept (l : List FaderIx) (s : State) :
    (grantAlong l s).notices = s.notices ∧ (grantAlong l s).recalls = s.recalls ∧
      (grantAlong l s).groups = s.groups := by
  induction l generalizing s with
  | nil => exact ⟨rfl, rfl, rfl⟩
  | cons x l ih =>
    unfold grantAlong
    split
    · have := ih (s.grantTo x); simpa using this
    · exact ⟨rfl, rfl, rfl⟩

/-- The grant rule touches only faders of the queue. -/
theorem State.grant_fader_ne (s : State) {f : FaderIx} (h : f ∉ s.queue) : s.grant.fader f = s.fader f :=
  grantAlong_fader_ne _ _ h
@[simp] theorem State.grant_notices (s : State) : s.grant.notices = s.notices := (grantAlong_kept _ _).1
@[simp] theorem State.grant_recalls (s : State) : s.grant.recalls = s.recalls := (grantAlong_kept _ _).2.1
@[simp] theorem State.grant_groups (s : State) : s.grant.groups = s.groups := (grantAlong_kept _ _).2.2

/-! ## Recall outcomes -/

/-- Writing an outcome touches the recall queue only. -/
@[simp] theorem State.writeOutcome_fader (s : State) (t i : Nat) (o : Outcome) (f : FaderIx) :
    (s.writeOutcome t i o).fader f = s.fader f := by
  unfold State.writeOutcome; split <;> (try split) <;> (try split) <;> rfl
@[simp] theorem State.writeOutcome_notices (s : State) (t i : Nat) (o : Outcome) :
    (s.writeOutcome t i o).notices = s.notices := by
  unfold State.writeOutcome; split <;> (try split) <;> (try split) <;> rfl
@[simp] theorem State.writeOutcome_queue (s : State) (t i : Nat) (o : Outcome) :
    (s.writeOutcome t i o).queue = s.queue := by
  unfold State.writeOutcome; split <;> (try split) <;> (try split) <;> rfl
@[simp] theorem State.writeOutcome_groups (s : State) (t i : Nat) (o : Outcome) :
    (s.writeOutcome t i o).groups = s.groups := by
  unfold State.writeOutcome; split <;> (try split) <;> (try split) <;> rfl

/-- The outcome of the head's open entry is written (R109). -/
theorem State.writeOutcome_open {s : State} {r : Recall} {rest : List Recall} {run : RecallRun} {i : Nat} (o : Outcome)
    (hs : s.recalls = r :: rest) (hr : r.run = some run) (hi : run.outcomes[i]? = some none) :
    (s.writeOutcome r.tag i o).recalls =
      { r with run := some { run with outcomes := run.outcomes.set i (some o) } } :: rest := by
  simp [State.writeOutcome, hs, hr, hi]

/-- A disabled lane stays as it is (R135). -/
theorem State.disableLane_off {s : State} {f : FaderIx} (r : Option LaneReason) (h : (s.fader f).lane.enabled = false) :
    s.disableLane f r = s := by
  simp [State.disableLane, h]

end Sys2Proof.Machine
end

