-- ==== Sys2Proof/Laws/PerInstr.lean ====
section
/-! SUPPORT. How each command stands on the line, constructor by constructor: a request row has an address and a kind code,
an event row neither, and a kind code fits its byte; a row with a name has one of the codes 1 to 43 (Table 10-4). -/

namespace Sys2Proof.Laws

/-- A command has an address exactly when it has a kind code; the code fits one byte, and is one of Table 10-4's unless
the row is the one for frames judged by their code. -/
def Addressing.Statement (i : Instr) : Prop :=
  (i.dest.isSome = i.kind.isSome) ∧
    ∀ k, i.kind = some k → k < 256 ∧ (k = 0 ∨ 43 < k → ∃ d b p, i = .unknownKind d b p)

/-- A request row with a name. -/
theorem of_request {i : Instr} {d : Dest} {n : Nat} (hd : i.dest = some d) (hk : i.kind = some n)
    (h : 1 ≤ n ∧ n ≤ 43) : Addressing.Statement i := by
  refine ⟨by rw [hd, hk]; rfl, fun k e => ?_⟩
  obtain rfl : n = k := by rw [hk] at e; exact Option.some.inj e
  exact ⟨by omega, fun x => by omega⟩

/-- An event row. -/
theorem of_event {i : Instr} (hd : i.dest = none) (hk : i.kind = none) : Addressing.Statement i :=
  ⟨by rw [hd, hk]; rfl, fun k e => by rw [hk] at e; cases e⟩

/-- The row for frames judged by their kind code. -/
theorem of_unknown (d : Dest) (b : Byte) (p : List Byte) : Addressing.Statement (.unknownKind d b p) :=
  ⟨rfl, fun _ e => ⟨Option.some.inj e ▸ b.isLt, fun _ => ⟨d, b, p, rfl⟩⟩⟩

theorem Addressing.move (d : Dest) (fader target glide : Nat) : Addressing.Statement (.move d fader target glide) :=
  of_request rfl rfl (by decide)
theorem Addressing.null (d : Dest) (fader glide : Nat) : Addressing.Statement (.null d fader glide) :=
  of_request rfl rfl (by decide)
theorem Addressing.stop (d : Dest) (fader : Nat) : Addressing.Statement (.stop d fader) :=
  of_request rfl rfl (by decide)
theorem Addressing.teach (d : Dest) (fader : Nat) : Addressing.Statement (.teach d fader) :=
  of_request rfl rfl (by decide)
theorem Addressing.faderSet (d : Dest) (faders : BitVec 16) (settings : FaderSetOperand)
    : Addressing.Statement (.faderSet d faders settings) :=
  of_request rfl rfl (by decide)
theorem Addressing.faderRead (d : Dest) (fader : Nat) : Addressing.Statement (.faderRead d fader) :=
  of_request rfl rfl (by decide)
theorem Addressing.watchSet (d : Dest) (faders : BitVec 16) (watch : Nat)
    : Addressing.Statement (.watchSet d faders watch) :=
  of_request rfl rfl (by decide)
theorem Addressing.faultClear (d : Dest) (fader conditions : Nat)
    : Addressing.Statement (.faultClear d fader conditions) :=
  of_request rfl rfl (by decide)
theorem Addressing.calibrate (d : Dest) (faders : BitVec 16) : Addressing.Statement (.calibrate d faders) :=
  of_request rfl rfl (by decide)
theorem Addressing.calAccept (d : Dest) (fader : Nat) : Addressing.Statement (.calAccept d fader) :=
  of_request rfl rfl (by decide)
theorem Addressing.calReject (d : Dest) (fader : Nat) : Addressing.Statement (.calReject d fader) :=
  of_request rfl rfl (by decide)
theorem Addressing.budgetSet (d : Dest) (budget : Nat) : Addressing.Statement (.budgetSet d budget) :=
  of_request rfl rfl (by decide)
theorem Addressing.heatSet (d : Dest) (trip resume : Nat) : Addressing.Statement (.heatSet d trip resume) :=
  of_request rfl rfl (by decide)
theorem Addressing.driveRead (d : Dest) : Addressing.Statement (.driveRead d) := of_request rfl rfl (by decide)
theorem Addressing.groupForm (d : Dest) (group master : Nat) (members : BitVec 16)
    : Addressing.Statement (.groupForm d group master members) :=
  of_request rfl rfl (by decide)
theorem Addressing.groupDissolve (d : Dest) (group : Nat) : Addressing.Statement (.groupDissolve d group) :=
  of_request rfl rfl (by decide)
theorem Addressing.groupRead (d : Dest) (group : Nat) : Addressing.Statement (.groupRead d group) :=
  of_request rfl rfl (by decide)
theorem Addressing.pageLoad (d : Dest) (page glide : Nat) (entries : List EntryOperand)
    : Addressing.Statement (.pageLoad d page glide entries) :=
  of_request rfl rfl (by decide)
theorem Addressing.pageRead (d : Dest) (page : Nat) : Addressing.Statement (.pageRead d page) :=
  of_request rfl rfl (by decide)
theorem Addressing.recall (d : Dest) (tag page condition count : Nat)
    : Addressing.Statement (.recall d tag page condition count) :=
  of_request rfl rfl (by decide)
theorem Addressing.fire (d : Dest) : Addressing.Statement (.fire d) := of_request rfl rfl (by decide)
theorem Addressing.withdraw (d : Dest) : Addressing.Statement (.withdraw d) := of_request rfl rfl (by decide)
theorem Addressing.halt (d : Dest) : Addressing.Statement (.halt d) := of_request rfl rfl (by decide)
theorem Addressing.recallSet (d : Dest) (lateness expiry : Nat) : Addressing.Statement (.recallSet d lateness expiry) :=
  of_request rfl rfl (by decide)
theorem Addressing.recallRead (d : Dest) : Addressing.Statement (.recallRead d) := of_request rfl rfl (by decide)
theorem Addressing.timeSet (d : Dest) (count : Nat) : Addressing.Statement (.timeSet d count) :=
  of_request rfl rfl (by decide)
theorem Addressing.transport (d : Dest) (value : Nat) : Addressing.Statement (.transport d value) :=
  of_request rfl rfl (by decide)
theorem Addressing.timeSource (d : Dest) (source rate : Nat) : Addressing.Statement (.timeSource d source rate) :=
  of_request rfl rfl (by decide)
theorem Addressing.laneEnable (d : Dest) (fader : Nat) (chase : Option Nat)
    : Addressing.Statement (.laneEnable d fader chase) :=
  of_request rfl rfl (by decide)
theorem Addressing.laneDisable (d : Dest) (fader : Nat) : Addressing.Statement (.laneDisable d fader) :=
  of_request rfl rfl (by decide)
theorem Addressing.points (d : Dest) (fader : Nat) (list : List PointOperand)
    : Addressing.Statement (.points d fader list) :=
  of_request rfl rfl (by decide)
theorem Addressing.laneRead (d : Dest) (fader : Nat) : Addressing.Statement (.laneRead d fader) :=
  of_request rfl rfl (by decide)
theorem Addressing.meterSet (d : Dest) (meters : BitVec 32) (settings : MeterSetOperand)
    : Addressing.Statement (.meterSet d meters settings) :=
  of_request rfl rfl (by decide)
theorem Addressing.scaleLoad (d : Dest) (table : Nat) (thresholds : Vector Nat 40)
    : Addressing.Statement (.scaleLoad d table thresholds) :=
  of_request rfl rfl (by decide)
theorem Addressing.levels (d : Dest) (list : List LevelOperand) : Addressing.Statement (.levels d list) :=
  of_request rfl rfl (by decide)
theorem Addressing.holdClear (d : Dest) (meters : BitVec 32) : Addressing.Statement (.holdClear d meters) :=
  of_request rfl rfl (by decide)
theorem Addressing.brightness (d : Dest) (value : Nat) : Addressing.Statement (.brightness d value) :=
  of_request rfl rfl (by decide)
theorem Addressing.streamSet (d : Dest) (base : Nat) : Addressing.Statement (.streamSet d base) :=
  of_request rfl rfl (by decide)
theorem Addressing.linkSet (d : Dest) (timeout rate : Nat) : Addressing.Statement (.linkSet d timeout rate) :=
  of_request rfl rfl (by decide)
theorem Addressing.collect (d : Dest) (maximum : Nat) : Addressing.Statement (.collect d maximum) :=
  of_request rfl rfl (by decide)
theorem Addressing.identify (d : Dest) : Addressing.Statement (.identify d) := of_request rfl rfl (by decide)
theorem Addressing.store (d : Dest) : Addressing.Statement (.store d) := of_request rfl rfl (by decide)
theorem Addressing.restart (d : Dest) : Addressing.Statement (.restart d) := of_request rfl rfl (by decide)
theorem Addressing.unknownKind (d : Dest) (kind : Byte) (payload : List Byte)
    : Addressing.Statement (.unknownKind d kind payload) :=
  of_unknown d kind payload
theorem Addressing.badCheckFrame : Addressing.Statement .badCheckFrame := of_event rfl rfl
theorem Addressing.foreignFrame (address kind : Byte) (payload : List Byte)
    : Addressing.Statement (.foreignFrame address kind payload) :=
  of_event rfl rfl
theorem Addressing.duplicateAddressReply : Addressing.Statement .duplicateAddressReply := of_event rfl rfl
theorem Addressing.frameOpeningIdle : Addressing.Statement .frameOpeningIdle := of_event rfl rfl
theorem Addressing.frameGapAbandon : Addressing.Statement .frameGapAbandon := of_event rfl rfl
theorem Addressing.replyStart : Addressing.Statement .replyStart := of_event rfl rfl
theorem Addressing.replyEnd : Addressing.Statement .replyEnd := of_event rfl rfl
theorem Addressing.linkLost : Addressing.Statement .linkLost := of_event rfl rfl
theorem Addressing.chipReset : Addressing.Statement .chipReset := of_event rfl rfl
theorem Addressing.resetRelease (addr1 addr0 : Strap) (raws : Vector (BitVec 12) 16)
    : Addressing.Statement (.resetRelease addr1 addr0 raws) :=
  of_event rfl rfl
theorem Addressing.partReady : Addressing.Statement .partReady := of_event rfl rfl
theorem Addressing.servoSample (fader : FaderIx) (raw : BitVec 12) (faultActive : Bool)
    : Addressing.Statement (.servoSample fader raw faultActive) :=
  of_event rfl rfl
theorem Addressing.rampEnd (fader : FaderIx) (raw : BitVec 12) (faultActive : Bool)
    : Addressing.Statement (.rampEnd fader raw faultActive) :=
  of_event rfl rfl
theorem Addressing.arrival (fader : FaderIx) (raw : BitVec 12) (faultActive : Bool)
    : Addressing.Statement (.arrival fader raw faultActive) :=
  of_event rfl rfl
theorem Addressing.touchSample (fader : FaderIx) (present : Bool) : Addressing.Statement (.touchSample fader present) :=
  of_event rfl rfl
theorem Addressing.touchOn (fader : FaderIx) : Addressing.Statement (.touchOn fader) := of_event rfl rfl
theorem Addressing.touchOff (fader : FaderIx) : Addressing.Statement (.touchOff fader) := of_event rfl rfl
theorem Addressing.stallCondition (fader : FaderIx) (raw : BitVec 12) (faultActive : Bool)
    : Addressing.Statement (.stallCondition fader raw faultActive) :=
  of_event rfl rfl
theorem Addressing.trackCondition (fader : FaderIx) (raw : BitVec 12) (faultActive : Bool)
    : Addressing.Statement (.trackCondition fader raw faultActive) :=
  of_event rfl rfl
theorem Addressing.overcurrentCondition (fader : FaderIx) (raw : BitVec 12) (faultActive : Bool)
    : Addressing.Statement (.overcurrentCondition fader raw faultActive) :=
  of_event rfl rfl
theorem Addressing.heatWindowEnd (fader : FaderIx) : Addressing.Statement (.heatWindowEnd fader) := of_event rfl rfl
theorem Addressing.calDownStop (fader : FaderIx) (raw : BitVec 12) (faultActive : Bool)
    : Addressing.Statement (.calDownStop fader raw faultActive) :=
  of_event rfl rfl
theorem Addressing.calUpStop (fader : FaderIx) (raw : BitVec 12) (faultActive : Bool)
    : Addressing.Statement (.calUpStop fader raw faultActive) :=
  of_event rfl rfl
theorem Addressing.calPhaseTimeout (fader : FaderIx) (raw : BitVec 12) (faultActive : Bool)
    : Addressing.Statement (.calPhaseTimeout fader raw faultActive) :=
  of_event rfl rfl
theorem Addressing.recallExpiry (fader : FaderIx) : Addressing.Statement (.recallExpiry fader) := of_event rfl rfl
theorem Addressing.framePulse : Addressing.Statement .framePulse := of_event rfl rfl
theorem Addressing.internalFrameEvent : Addressing.Statement .internalFrameEvent := of_event rfl rfl
theorem Addressing.syncLoss : Addressing.Statement .syncLoss := of_event rfl rfl
theorem Addressing.displayFrame : Addressing.Statement .displayFrame := of_event rfl rfl
theorem Addressing.holdExpiry (meter : MeterIx) : Addressing.Statement (.holdExpiry meter) := of_event rfl rfl
theorem Addressing.lampExpiry (meter : MeterIx) : Addressing.Statement (.lampExpiry meter) := of_event rfl rfl
theorem Addressing.scanFrameStart : Addressing.Statement .scanFrameStart := of_event rfl rfl
theorem Addressing.levelStreamFrame (bits : List Bool) : Addressing.Statement (.levelStreamFrame bits) :=
  of_event rfl rfl
theorem Addressing.streamLoss : Addressing.Statement .streamLoss := of_event rfl rfl
theorem Addressing.storeEnd (differs : Option (BitVec 16)) : Addressing.Statement (.storeEnd differs) :=
  of_event rfl rfl
theorem Addressing.byteArrival (byte : Byte) (stopLow : Bool) : Addressing.Statement (.byteArrival byte stopLow) :=
  of_event rfl rfl

end Sys2Proof.Laws
end

