-- ==== Sys2Proof/WellFormed.lean ====
section
/-! DEFINITION. Which commands can come about: every number fits the width its payload field has in Table 10-9, every
list fits a payload of at most 128 bytes, and a payload given whole is at most 128 bytes. Values that fit the field but
lie outside a rule's range are well formed: the part refuses them. -/

namespace Sys2Proof

/-- The number fits one byte. -/
def fits1 (n : Nat) : Bool := decide (n < 256)

/-- The number fits two bytes. -/
def fits2 (n : Nat) : Bool := decide (n < 65536)

/-- The number fits three bytes. -/
def fits3 (n : Nat) : Bool := decide (n < 16777216)

/-- A present number passes; an absent one always does. -/
def fitsWhen (o : Option Nat) (p : Nat → Bool) : Bool :=
  match o with
  | none => true
  | some n => p n

/-- A glide that may be absent: the value all ones stands for absence. -/
def fitsGlide (o : Option Nat) : Bool := fitsWhen o fun n => decide (n < 65535)

/-- A PAGE-LOAD entry. -/
def EntryOperand.fits (e : EntryOperand) : Bool := fits1 e.fader && fits2 e.target && fitsGlide e.glide

/-- A POINTS point. -/
def PointOperand.fits (p : PointOperand) : Bool := fits3 p.time && fits2 p.position && fits1 p.shape

/-- A LEVELS entry. -/
def LevelOperand.fits (e : LevelOperand) : Bool := fits1 e.meter && fits1 e.level && fits1 e.clip

/-- The settings of FADER-SET. -/
def FaderSetOperand.fits (o : FaderSetOperand) : Bool :=
  fitsWhen o.release fits1 && fitsWhen o.touchEnable fits1 && fitsWhen o.arrivalWindow fits1
    && fitsWhen o.holdWindow fits1 && fitsWhen o.speedLimit fits1 && fitsWhen o.reportStep fits1
    && fitsWhen o.detent fits2

/-- The settings of METER-SET. -/
def MeterSetOperand.fits (o : MeterSetOperand) : Bool :=
  fitsWhen o.mode fits1 && fitsWhen o.source fits1 && fitsWhen o.scaleTable fits1 && fitsWhen o.fallInterval fits1
    && fitsWhen o.holdTime fits2 && fitsWhen o.overloadHold fits2 && fitsWhen o.threshold fits1
    && fitsWhen o.pairLink fits1

/-- The command can come about. -/
def Instr.wf : Instr → Bool
  | .move _ f t g => fits1 f && fits2 t && fits2 g
  | .null _ f g => fits1 f && fits2 g
  | .stop _ f => fits1 f
  | .teach _ f => fits1 f
  | .faderSet _ _ o => o.fits
  | .faderRead _ f => fits1 f
  | .watchSet _ _ w => fits1 w
  | .faultClear _ f c => fits1 f && fits1 c
  | .calibrate _ _ => true
  | .calAccept _ f => fits1 f
  | .calReject _ f => fits1 f
  | .budgetSet _ b => fits1 b
  | .heatSet _ t r => fits2 t && fits2 r
  | .driveRead _ => true
  | .groupForm _ g m _ => fits1 g && fits1 m
  | .groupDissolve _ g => fits1 g
  | .groupRead _ g => fits1 g
  | .pageLoad _ p g l => fits1 p && fits2 g && l.all EntryOperand.fits && decide (l.length ≤ 25)
  | .pageRead _ p => fits1 p
  | .recall _ t p c n => fits1 t && fits1 p && fits1 c && fits3 n
  | .fire _ => true
  | .withdraw _ => true
  | .halt _ => true
  | .recallSet _ l e => fits2 l && fits2 e
  | .recallRead _ => true
  | .timeSet _ c => fits3 c
  | .transport _ v => fits1 v
  | .timeSource _ x r => fits1 x && fits1 r
  | .laneEnable _ f c => fits1 f && fitsGlide c
  | .laneDisable _ f => fits1 f
  | .points _ f l => fits1 f && l.all PointOperand.fits && decide (l.length ≤ 21)
  | .laneRead _ f => fits1 f
  | .meterSet _ _ o => o.fits
  | .scaleLoad _ t v => fits1 t && v.toList.all fits1
  | .levels _ l => l.all LevelOperand.fits && decide (l.length ≤ 42)
  | .holdClear _ _ => true
  | .brightness _ v => fits1 v
  | .streamSet _ b => fits1 b
  | .linkSet _ t r => fits2 t && fits1 r
  | .collect _ m => fits1 m
  | .identify _ => true
  | .store _ => true
  | .restart _ => true
  | .unknownKind _ _ p => decide (p.length ≤ 128)
  | .badCheckFrame => true
  | .foreignFrame _ _ p => decide (p.length ≤ 128)
  | .duplicateAddressReply => true
  | .frameOpeningIdle => true
  | .frameGapAbandon => true
  | .replyStart => true
  | .replyEnd => true
  | .linkLost => true
  | .chipReset => true
  | .resetRelease _ _ _ => true
  | .partReady => true
  | .servoSample _ _ _ => true
  | .rampEnd _ _ _ => true
  | .arrival _ _ _ => true
  | .touchSample _ _ => true
  | .touchOn _ => true
  | .touchOff _ => true
  | .stallCondition _ _ _ => true
  | .trackCondition _ _ _ => true
  | .overcurrentCondition _ _ _ => true
  | .heatWindowEnd _ => true
  | .calDownStop _ _ _ => true
  | .calUpStop _ _ _ => true
  | .calPhaseTimeout _ _ _ => true
  | .recallExpiry _ => true
  | .framePulse => true
  | .internalFrameEvent => true
  | .syncLoss => true
  | .displayFrame => true
  | .holdExpiry _ => true
  | .lampExpiry _ => true
  | .scanFrameStart => true
  | .levelStreamFrame _ => true
  | .streamLoss => true
  | .storeEnd _ => true
  | .byteArrival _ _ => true

end Sys2Proof
end

