-- ==== Sys2Proof/Tests/Slice0.lean ====
section
/-! SUPPORT. The model's own tests: ill-formed commands refused by the well-formedness check; worked values of the spec;
single commands on small states; and for every statement for the provers, states and operands that meet its hypotheses,
clause by clause at the ends of their ranges. -/

namespace Sys2Proof.Tests
open Sys2Proof.Machine

set_option Elab.async false

/-! ## Well-formedness: one ill-formed term for each check -/

theorem test_wf_accepts : ∀ c ∈ ([.move .addressed 255 65535 65535, .pageLoad .broadcast 3 0 [⟨1, 2, some 65534⟩],
    .points .addressed 0 [⟨16777215, 0, 0⟩], .levels .addressed [⟨255, 255, 255⟩], .linkLost] : List Instr),
    c.wf = true := by decide

theorem test_wf_one_byte : ∀ c ∈ ([.move .addressed 256 0 0, .null .addressed 256 0, .stop .addressed 256,
    .teach .addressed 256, .faderRead .addressed 256, .watchSet .addressed 1 256, .faultClear .addressed 256 1,
    .faultClear .addressed 0 256, .calAccept .addressed 256, .calReject .addressed 256, .budgetSet .addressed 256,
    .groupForm .addressed 256 0 1, .groupForm .addressed 0 256 1, .groupDissolve .addressed 256,
    .groupRead .addressed 256, .pageLoad .addressed 256 0 [], .pageRead .addressed 256, .recall .addressed 256 0 0 0,
    .recall .addressed 0 256 0 0, .recall .addressed 0 0 256 0, .transport .addressed 256,
    .timeSource .addressed 256 24, .timeSource .addressed 0 256] : List Instr), c.wf = false := by decide

theorem test_wf_one_byte_too : ∀ c ∈ ([.laneEnable .addressed 256 none, .laneDisable .addressed 256,
    .points .addressed 256 [], .laneRead .addressed 256, .scaleLoad .addressed 256 (Vector.replicate 40 0),
    .scaleLoad .addressed 0 (Vector.replicate 40 256), .brightness .addressed 256, .streamSet .addressed 256,
    .linkSet .addressed 0 256, .collect .addressed 256] : List Instr), c.wf = false := by decide

theorem test_wf_two_bytes : ∀ c ∈ ([.move .addressed 0 65536 0, .move .addressed 0 0 65536, .null .addressed 0 65536,
    .heatSet .addressed 65536 0, .heatSet .addressed 0 65536, .pageLoad .addressed 0 65536 [],
    .recallSet .addressed 65536 0, .recallSet .addressed 0 65536, .laneEnable .addressed 0 (some 65535),
    .linkSet .addressed 65536 0] : List Instr), c.wf = false := by decide

theorem test_wf_three_bytes : ∀ c ∈ ([.recall .addressed 0 0 2 16777216, .timeSet .addressed 16777216] : List Instr),
    c.wf = false := by decide

theorem test_wf_list_items : ∀ c ∈ ([.pageLoad .addressed 0 0 [⟨256, 0, none⟩], .pageLoad .addressed 0 0 [⟨0, 65536, none⟩],
    .pageLoad .addressed 0 0 [⟨0, 0, some 65535⟩], .points .addressed 0 [⟨16777216, 0, 0⟩],
    .points .addressed 0 [⟨0, 65536, 0⟩], .points .addressed 0 [⟨0, 0, 256⟩], .levels .addressed [⟨256, 0, 0⟩],
    .levels .addressed [⟨0, 256, 0⟩], .levels .addressed [⟨0, 0, 256⟩]] : List Instr), c.wf = false := by decide

theorem test_wf_list_lengths : ∀ c ∈ ([.pageLoad .addressed 0 0 (List.replicate 26 ⟨0, 0, none⟩),
    .points .addressed 0 (List.replicate 22 ⟨1, 0, 0⟩), .levels .addressed (List.replicate 43 ⟨0, 0, 0⟩),
    .unknownKind .addressed 0 (List.replicate 129 0), .foreignFrame 0 0 (List.replicate 129 0)] : List Instr),
    c.wf = false := by decide +kernel

theorem test_wf_settings : ∀ c ∈ ([.faderSet .addressed 1 ⟨some 256, none, none, none, none, none, none⟩,
    .faderSet .addressed 1 ⟨none, some 256, none, none, none, none, none⟩,
    .faderSet .addressed 1 ⟨none, none, some 256, none, none, none, none⟩,
    .faderSet .addressed 1 ⟨none, none, none, some 256, none, none, none⟩,
    .faderSet .addressed 1 ⟨none, none, none, none, some 256, none, none⟩,
    .faderSet .addressed 1 ⟨none, none, none, none, none, some 256, none⟩,
    .faderSet .addressed 1 ⟨none, none, none, none, none, none, some 65536⟩,
    .meterSet .addressed 1 ⟨some 256, none, none, none, none, none, none, none⟩,
    .meterSet .addressed 1 ⟨none, some 256, none, none, none, none, none, none⟩,
    .meterSet .addressed 1 ⟨none, none, some 256, none, none, none, none, none⟩,
    .meterSet .addressed 1 ⟨none, none, none, some 256, none, none, none, none⟩,
    .meterSet .addressed 1 ⟨none, none, none, none, some 65536, none, none, none⟩,
    .meterSet .addressed 1 ⟨none, none, none, none, none, some 65536, none, none⟩,
    .meterSet .addressed 1 ⟨none, none, none, none, none, none, some 256, none⟩,
    .meterSet .addressed 1 ⟨none, none, none, none, none, none, none, some 256⟩] : List Instr), c.wf = false := by decide

/-! ## Small states -/

/-- A part that is READY and listening, every fader PARKED at 0. -/
def ready : State := { State.reset with part := .ready, link := { State.reset.link with receiver := .ready } }

/-- F0 in a state with a claim. -/
def inState (st : FaderState) (c : Claim) : State := ready.modRecord 0 fun r => { r with state := st, claim := c }

/-- F0 at a position in a state with a claim. -/
def atPos (p : Nat) (st : FaderState) (c : Claim) : State := (inState st c).modTrack 0 fun t => { t with pos := p }

/-- A recall of page 0 that is RUNNING with these outcomes. -/
def running (o : List (Option Outcome)) : Recall := ⟨7, 0, .now, some ⟨0, 60, 3000, o⟩⟩

/-- A PENDING recall of page 0. -/
def waiting (c : StartCondition) : Recall := ⟨8, 0, c, none⟩

/-- The recall queue replaced. -/
def withRecalls (l : List Recall) : State := { ready with recalls := l }

/-- The state a command leaves has this property. -/
def leaves (c : Instr) (s : State) (p : State → Bool) : Bool :=
  match exec c s with
  | .next t => p t
  | _ => false

/-! ## Worked values -/

theorem test_no_word_spells_a_command : decodeTableWord 16 0xFFFF = none ∧ (ready.withFetchWord 8 1).pending = [] := by
  decide
theorem test_default_scales : defaultScaleA.toList.Pairwise (· > ·) ∧ defaultScaleB.toList.Pairwise (· > ·) ∧
    defaultScaleA[0] = 236 ∧ defaultScaleA[39] = 0 ∧ defaultScaleB[0] = 234 ∧ defaultScaleB[39] = 0 := by decide +kernel
theorem test_check_value : crc [] = 0xFFFF#16 ∧ crc (checkBytes (crc [])) = 0 ∧
    crc ([0x05#8, 0x1D#8, 0x00#8] ++ checkBytes (crc [0x05#8, 0x1D#8, 0x00#8])) = 0 := by decide +kernel
theorem test_map_ends : mapRaw 200 3895 200 = 0 ∧ mapRaw 200 3895 3895 = 1023 ∧ mapRaw 200 3895 100 = 0 ∧
    mapRaw 200 3895 4095 = 1023 := by decide
theorem test_servo_drive : servoDrive 10 10 = 0 ∧ servoDrive 20 10 = 40 ∧ servoDrive 0 1023 = -100 ∧
    servoDrive 1023 0 = 100 := by decide
theorem test_ramp_midway : (⟨0, 101, 0, 10⟩ : RampItems).setpointAt 15 = 51 ∧
    (⟨101, 0, 0, 10⟩ : RampItems).setpointAt 15 = 50 := by decide
theorem test_segment_midway : (⟨0, 0, 2, 1⟩ : Segment).valueAt 1 = 1 ∧ (⟨0, 1, 2, 0⟩ : Segment).valueAt 1 = 0 := by decide
theorem test_full_drive_window : Heat.after ⟨0, 2000, true, 20, 0⟩ = 4 ∧ Heat.after ⟨4095, 2000, true, 20, 0⟩ = 4095 ∧
    Heat.after ⟨0, 0, false, 20, 0⟩ = 0 ∧ Heat.after ⟨5, 0, false, 20, 0⟩ = 4 := by decide
theorem test_follow_target : followTarget 500 (-600) = 0 ∧ followTarget 500 600 = 1023 ∧ followTarget 500 23 = 523 := by
  decide

/-! ## Single commands -/

theorem test_move_travels : leaves (.move .addressed 0 500 100) ready (fun t =>
    decide (t.stateOf 0 = .travel) && decide (t.claimOf 0 = .direct) && decide (t.targetOf 0 = 500)) = true := by
  decide +kernel
theorem test_move_broadcast_is_ignored : leaves (.move .broadcast 0 500 100) ready (fun t =>
    decide (t.stateOf 0 = .parked) && decide (t.link.receiver = .waitIdle)) = true := by decide +kernel
theorem test_stop_ends_direct : leaves (.stop .addressed 0) (atPos 300 .travel .direct) (fun t =>
    decide (t.stateOf 0 = .parked) && decide (t.claimOf 0 = .none) && decide (t.targetOf 0 = 300)) = true := by
  decide +kernel
theorem test_second_move_waits_for_a_slot : leaves (.move .addressed 1 500 0)
    (({ ready with settings := { ready.settings with budget := 1 } }).modRecord 0 fun r => { r with state := .settle })
    (fun t => decide (t.stateOf 1 = .waiting) && decide (t.queue = [1])) = true := by decide +kernel
theorem test_page_busy : leaves (.pageLoad .addressed 0 0 []) (withRecalls [waiting .fire]) (fun t =>
    decide ((t.link.reply.map (·.status)) = some .pageBusy)) = true := by decide +kernel
theorem test_empty_recall_completes : leaves (.recall .addressed 9 0 0 0) ready (fun t =>
    decide (t.recalls = []) && decide (t.notices = [.recallEnd 9 0 false []])) = true := by decide +kernel
theorem test_unknown_kind : leaves (.unknownKind .addressed 44 []) ready (fun t =>
    decide ((t.link.reply.map (·.status)) = some .unknownKind)) = true := by decide +kernel
theorem test_bad_length : leaves (.unknownKind .addressed 1 []) ready (fun t =>
    decide ((t.link.reply.map (·.status)) = some .badLength)) = true := by decide +kernel
theorem test_first_sample_retargets_a_move :
    leaves (.servoSample 0 1000#12 false) ((((inState .travel .direct).modRecord 0 fun r => { r with target := 900 }).modTrack
        0 fun t => { t with first := true })) (fun t =>
      decide (t.stateOf 0 = .settle) && decide (t.targetOf 0 = t.posOf 0) && decide (t.claimOf 0 = .direct)) = true ∧
    leaves (.servoSample 0 1000#12 false)
      { ((inState .waiting .direct).modTrack 0 fun t => { t with first := true }) with queue := [0] } (fun t =>
      decide (t.stateOf 0 = .parked) && decide (t.claimOf 0 = .none) && decide (t.queue = [])) = true := by decide +kernel
theorem test_idle_step_is_a_tick : step ready = .next { ready with now := 1 } := rfl

/-! ## What the statements suppose, met clause by clause -/

theorem met_StepTakesFrontCommandOrTicks :
    ({ ready with pending := [.fire .addressed] } : State).pending = .fire .addressed :: [] ∧ ready.pending = [] := by decide
theorem met_ChipResetRestoresResetValues :
    ready.storing = none ∧ ({ ready with storing := some Settings.default } : State).storing ≠ none := by decide +kernel
theorem met_StartUpLoadsProfileAndParksFaders :
    State.reset.part = .inReset ∧ ({ State.reset with part := .starting } : State).part = .starting := by decide
theorem met_PartNotReadyOrNotListeningIsUnmoved :
    (State.reset.part ≠ .ready ∧ Instr.linkLost ≠ .chipReset ∧ Instr.linkLost ≠ .partReady ∧
      ∀ a1 a0 raws, Instr.linkLost ≠ .resetRelease a1 a0 raws) ∧
    ((Instr.fire .broadcast).dest ≠ none ∧ State.reset.hears = false) := by
  refine ⟨⟨by decide, by decide, by decide, fun _ _ _ h => ?_⟩, by decide, by decide⟩
  cases h
theorem met_RequestsAnswerOnTheLine :
    ((Instr.store .addressed).kind = some 42 ∧ (Instr.store .addressed).dest = some .addressed ∧ ready.hears = true) ∧
    ((Instr.fire .broadcast).kind = some 21 ∧ (Instr.fire .broadcast).dest = some .broadcast) ∧
    ((Instr.store .broadcast).kind = some 42 ∧ (Instr.store .broadcast).dest = some .broadcast ∧
      broadcastKind 42 = false) := by decide
/-- A request that finds the link LINK-LOST, with a LINK notice pending and none. -/
theorem met_RequestsAnswerOnTheLine_lost :
    let s : State := { ready with link := { ready.link with lost := true } };
    let u : State := { s with notices := [.link .lost false] };
    s.hears = true ∧ leaves (.store .addressed) s (fun t => decide (.link .restored true ∈ t.notices)) = true ∧
      leaves (.store .broadcast) u (fun t => decide (t.notices = [.link .restored true])) = true := by decide +kernel

/-- The lowest number out of range of the faders and of the groups and pages, and a part that listens: what the read
statements suppose. -/
theorem met_ReadsReportAndChangeNothing : ready.hears = true ∧ 16 ≤ 16 := by decide
theorem met_GroupPageAndLaneReadsReport : ready.hears = true ∧ 4 ≤ 4 ∧ 16 ≤ 16 := by decide

theorem poolSettled_ready : ready.poolSettled := Or.inl rfl
theorem leadsTrue_of_no_group {s : State} (h : s.groups = Vector.replicate 4 none) : s.leadsTrue := by
  intro g r e
  simp [State.group, h] at e

/-- One fader holds the only slot of the budget. -/
def fullPool : State :=
  ({ ready with settings := { ready.settings with budget := 1 } }).modRecord 1 fun r => { r with state := .travel }

theorem met_MoveIsRefusedArrivesTravelsOrWaits :
    (ready.hears = true ∧ 16 ≤ 16 ∧ 1023 < 1024 ∧ 10000 < 10001 ∧ 1023 ≤ 1023 ∧ 10000 ≤ 10000) ∧
    ((inState .touched .none).stateOf 0 = .touched ∧ (inState .faulted .none).stateOf 0 = .faulted ∧
      (inState (.calibrating .calReview) .none).stateOf 0 = .calibrating .calReview ∧
      ((inState .rest (.lane false)).stateOf 0).takesClaims = true ∧
      ((inState .rest (.lane false)).claimOf 0).isLane = true) ∧
    (∀ s ∈ [ready, fullPool], s.hears = true ∧ s.stateOf 0 = .parked ∧ s.claimOf 0 = .none ∧ s.recalls = [] ∧
      s.heatOf 0 < s.settings.heatTrip ∧ s.poolSettled ∧ s.leadsTrue) ∧
    Sys2Proof.dist (ready.posOf 0) 2 ≤ (ready.config 0).arrivalWindow ∧
    (ready.config 0).arrivalWindow < Sys2Proof.dist (ready.posOf 0) 3 ∧
    ready.holders.length < ready.settings.budget ∧ fullPool.settings.budget ≤ fullPool.holders.length := by
  refine ⟨by decide, by decide, ?_, by decide, by decide, by decide +kernel, by decide +kernel⟩
  intro s hs
  simp only [List.mem_cons, List.not_mem_nil, or_false] at hs
  rcases hs with rfl | rfl
  · exact ⟨by decide, by decide, by decide, by decide, by decide, poolSettled_ready, leadsTrue_of_no_group rfl⟩
  · exact ⟨by decide, by decide, by decide, by decide, by decide, Or.inl rfl, leadsTrue_of_no_group rfl⟩

/-- Page 0 with two entries, its recall RUNNING with these outcomes, F0 under the claim of its first entry. -/
def playingWith (st : FaderState) (o : List (Option Outcome)) : State :=
  { inState st (.recall 7 0) with
    pages := ready.pages.set 0 ⟨0, [⟨0, 500, none⟩, ⟨1, 0, none⟩]⟩, recalls := [running o] }

/-- MOVE in every state that takes claims, over every claim it may replace, at both sides of the arrival window, and over
the last open entry of a recall and one that is not the last. -/
theorem met_MoveIsRefusedArrivesTravelsOrWaits_held :
    (∀ st ∈ [FaderState.parked, .waiting, .travel, .settle, .rest], ∀ c ∈ [Claim.none, .direct, .recall 7 0, .follow 0],
      (inState st c).hears = true ∧ ((inState st c).stateOf 0).takesClaims = true ∧
        ((inState st c).claimOf 0).isLane = false ∧ (inState st c).recalls.length ≤ 1 ∧
        Sys2Proof.dist ((inState st c).posOf 0) 2 ≤ ((inState st c).config 0).arrivalWindow ∧
        ((inState st c).config 0).arrivalWindow < Sys2Proof.dist ((inState st c).posOf 0) 3 ∧
        (inState st c).heatOf 0 < (inState st c).settings.heatTrip) ∧
    (∀ o ∈ [[none, some Outcome.arrived], [none, none]],
      (playingWith .travel o).hears = true ∧ (playingWith .travel o).recalls = [running o] ∧
        (running o).run = some ⟨0, 60, 3000, o⟩ ∧ (playingWith .travel o).claimOf 0 = .recall (running o).tag 0 ∧
        o[0]? = some none) ∧
    none ∉ ([none, some Outcome.arrived] : List (Option Outcome)).set 0 (some .superseded) ∧
    none ∈ ([none, none] : List (Option Outcome)).set 0 (some .superseded) := by decide +kernel

theorem met_NullIsMoveToDetent : ready.hears = true ∧ 16 ≤ 16 ∧ (ready.config 0).detent ≤ 1023 := by decide
theorem met_StopEndsClaimWhereFaderStands :
    (ready.hears = true ∧ 16 ≤ 16 ∧ ready.claimOf 0 = .none ∧ (inState .rest (.lane false)).claimOf 0 = .lane false ∧
      (inState .travel (.follow 3)).claimOf 0 = .follow 3 ∧ (inState .travel .direct).claimOf 0 = .direct ∧
      (inState .travel (.recall 255 15)).claimOf 0 = .recall 255 15) ∧
    (((inState .travel .direct).stateOf 0).phase = none ∧ ((inState .travel .direct).stateOf 0).moving = true ∧
      ((inState .rest .direct).stateOf 0).phase = none ∧ ((inState .rest .direct).stateOf 0).moving = false) := by decide
theorem met_TeachSetsDetent : ready.hears = true ∧ 16 ≤ 16 ∧ (ready.fader 0).fault.current.track = false ∧
    ((ready.modFault 0 fun x => { x with current := ⟨false, true, false⟩ }).fader 0).fault.current.track = true := by decide

/-- Every setting at the low end of its range, and at the high end, and just outside. -/
theorem met_FaderSetWritesPresentSettings :
    ready.hears = true ∧ (0xFFFF#16) ≠ 0#16 ∧ (0#16) = 0#16 ∧
    (∀ o ∈ ([⟨some 0, some 0, some 1, some 3, some 1, some 1, some 0⟩,
      ⟨some 1, some 1, some 8, some 32, some 8, some 16, some 1023⟩] : List FaderSetOperand),
      (∀ n, o.release = some n → n ≤ 1) ∧ (∀ n, o.touchEnable = some n → n ≤ 1) ∧
      (∀ n, o.arrivalWindow = some n → 1 ≤ n ∧ n ≤ 8) ∧ (∀ n, o.holdWindow = some n → 3 ≤ n ∧ n ≤ 32) ∧
      (∀ n, o.speedLimit = some n → 1 ≤ n ∧ n ≤ 8) ∧ (∀ n, o.reportStep = some n → 1 ≤ n ∧ n ≤ 16) ∧
      (∀ n, o.detent = some n → n ≤ 1023)) ∧
    (∀ o ∈ ([⟨some 2, none, none, none, none, none, none⟩, ⟨none, some 2, none, none, none, none, none⟩,
      ⟨none, none, some 0, none, none, none, none⟩, ⟨none, none, some 9, none, none, none, none⟩,
      ⟨none, none, none, some 2, none, none, none⟩, ⟨none, none, none, some 33, none, none, none⟩,
      ⟨none, none, none, none, some 0, none, none⟩, ⟨none, none, none, none, some 9, none, none⟩,
      ⟨none, none, none, none, none, some 0, none⟩, ⟨none, none, none, none, none, some 17, none⟩,
      ⟨none, none, none, none, none, none, some 1024⟩] : List FaderSetOperand), FaderSetOperand.ok o = false) ∧
    (ready.config 0).touchEnable = true := by
  refine ⟨by decide, by decide, by decide, ?_, by decide +kernel, by decide⟩
  simp

/-- A touch in progress that FADER-SET turns off: without a claim and under a suspended LANE claim, cool and hot, with
captures to spare and without; and a report step that changes while no enable does. -/
theorem met_FaderSetWritesPresentSettings_effects :
    (∀ c ∈ [Claim.none, .lane true], ∀ l ∈ [([] : List Capture), [⟨true, 0, 0⟩, ⟨false, 0, 0⟩]],
      let s := ((inState .touched c).modTouch 0 fun t => { t with on := true, captures := l }).modLane 0 fun x =>
        { x with enabled := c.isLane };
      s.hears = true ∧ (1#16).getLsbD 0 = true ∧ (s.config 0).touchEnable = true ∧ (s.fader 0).touch.on = true ∧
        s.stateOf 0 = .touched ∧ s.claimOf 0 = c ∧ (s.fader 0).lane.enabled = c.isLane) ∧
    (let s := atPos 5 .parked .none;
      leaves (.faderSet .addressed 1 ⟨none, none, none, none, none, some 5, none⟩) s (fun t =>
        decide ((t.config 0).touchEnable = (s.config 0).touchEnable) && decide (t.notices = [.move 0])) = true ∧
      leaves (.faderSet .addressed 1 ⟨none, none, none, none, none, some 6, none⟩) s (fun t =>
        decide (t.notices = [])) = true) := by decide +kernel

/-- F0 with STALL current and nothing latched. -/
def stalled : State := ready.modFault 0 fun x => { x with current := ⟨true, false, false⟩ }

theorem met_WatchSetLatchesCurrentConditions :
    stalled.hears = true ∧ (1#16) ≠ 0#16 ∧ (1#16).getLsbD 0 = true ∧ (stalled.fader 0).fault.latched.isEmpty = true ∧
    (stalled.fader 0).fault.current.has .stall = true ∧ (condSetOf 1).has .stall = true ∧
    stalled.stateOf 0 ≠ .calibrating .calWait := by decide
/-- TRACK current in CAL-WAIT on the first fader of the set; and a FAULTED fader, STALL latched, with more conditions
current: none added, one, and two. -/
theorem met_WatchSetLatchesCurrentConditions_added :
    (let s := (inState (.calibrating .calWait) .none).modFault 0 fun x => { x with current := ⟨false, true, false⟩ };
      s.hears = true ∧ (3#16).getLsbD 0 = true ∧ (∀ f' : FaderIx, f' < 0 → (3#16).getLsbD f'.val = false) ∧
        s.stateOf 0 = .calibrating .calWait ∧ (s.fader 0).fault.latched.isEmpty = true ∧
        (s.fader 0).fault.current.has .track = true ∧ (condSetOf 2).has .track = true) ∧
    (let s := (inState .faulted .none).modFault 0 fun x =>
        { x with latched := ⟨true, false, false⟩, current := ⟨false, true, true⟩ };
      s.stateOf 0 = .faulted ∧ (s.fader 0).fault.latched.isEmpty = false ∧
      ∀ x ∈ [(1, none), (3, some Cond.track), (7, some .overcurrent)],
        ([Cond.stall, .track, .overcurrent].filter fun c => (s.fader 0).fault.current.has c && (condSetOf x.1).has c
          && !(s.fader 0).fault.latched.has c).getLast? = x.2) := by decide +kernel

/-- F0 FAULTED with STALL latched, current or not. -/
def faulted (current : Bool) : State :=
  (inState .faulted .none).modFault 0 fun x => { x with latched := ⟨true, false, false⟩, current := ⟨current, false, false⟩ }

theorem met_FaultClearRemovesCeasedConditions :
    ready.hears = true ∧ 16 ≤ 16 ∧ (condSetOf 8).isEmpty = true ∧ (condSetOf 1).isEmpty = false ∧
    (ready.fader 0).fault.latched.isEmpty = true ∧
    (∀ b, ((faulted b).fader 0).fault.latched.isEmpty = false ∧ (faulted b).stateOf 0 = .faulted) ∧
    leaves (.faultClear .addressed 0 1) (faulted false) (fun t => (t.fader 0).fault.latched.isEmpty) = true ∧
    leaves (.faultClear .addressed 0 1) (faulted true) (fun t => !(t.fader 0).fault.latched.isEmpty) = true := by
  decide +kernel
theorem met_CalibrateIsTakenWholeOrRefusedWhole :
    (ready.hears = true ∧ (0x8001#16).getLsbD 0 = true ∧ (inState .rest .none).calRefusal 0 = some .state ∧
      (inState .rest .none).calRefusal 15 = none) ∧
    (0x8001#16 ≠ 0#16 ∧ ∀ f : FaderIx, (0x8001#16).getLsbD f.val = true → ready.calRefusal f = none ∧
      ready.heatOf f < ready.settings.heatTrip) := by decide +kernel

/-- F0 in CAL-REVIEW with its result. -/
def reviewed : State := ready.modRecord 0 fun r =>
  { r with state := .calibrating .calReview, pendingCal := some ⟨210, 3800, 3590⟩ }

/-- F0 under a DIRECT claim, in WAITING at the head of a full pool's queue; F2 waits behind it. -/
def waitingDirect : State :=
  { (fullPool.modRecord 0 fun r => { r with state := .waiting, claim := .direct }).modRecord 2 fun r =>
      { r with state := .waiting } with queue := [0, 2] }

/-- CALIBRATE one fader: with a free slot and without, below the trip value and at it, over a DIRECT claim. -/
theorem met_CalibrateIsTakenWholeOrRefusedWhole_one :
    (∀ s ∈ [ready, inState .travel .direct, waitingDirect, ready.modHeat 0 fun h => { h with heat := 3000 }],
      s.queue.Nodup ∧ (∀ f, f ∈ s.queue ↔ (s.stateOf f).queued = true) ∧ s.calRefusal 0 = none) ∧
    ready.heatOf 0 < ready.settings.heatTrip ∧
    (ready.modHeat 0 fun h => { h with heat := 3000 }).settings.heatTrip ≤
      (ready.modHeat 0 fun h => { h with heat := 3000 }).heatOf 0 ∧
    (waitingDirect.claimOf 0 = .direct ∧ (inState .travel .direct).claimOf 0 = .direct) ∧
    (0 < (ready.queue.filter (· ≠ 0) ++ [0]).length ∧ 0 < (waitingDirect.queue.filter (· ≠ 0) ++ [0]).length) := by
  decide +kernel

theorem met_ReviewEndsByAcceptOrReject :
    (ready.hears = true ∧ 16 ≤ 16 ∧ ready.stateOf 0 ≠ .calibrating .calReview ∧
      (inState .faulted .none).stateOf 0 ≠ .calibrating .calReview ∧
      (inState (.calibrating .calUp) .none).stateOf 0 ≠ .calibrating .calReview) ∧
    (reviewed.stateOf 0 = .calibrating .calReview ∧ (reviewed.fader 0).record.pendingCal = some ⟨210, 3800, 3590⟩ ∧
      reviewed.storing = none ∧ ({ reviewed with storing := some Settings.default } : State).storing ≠ none) := by
  decide +kernel

/-- Two faders wait, no slot is held. -/
def queued : State :=
  { (inState .waiting .none).modRecord 1 fun r => { r with state := .calibrating .calWait } with queue := [1, 0] }

theorem queueExact_queued : queued.queueExact := ⟨by decide, by decide +kernel⟩
theorem met_SlotsGoToQueueHeadAndSettingsAct :
    (queued.queueExact ∧ 0 < queued.queue.length) ∧ ready.hears = true ∧ (0 < 1 ∧ 16 < 17 ∧ 1 ≤ 1 ∧ 16 ≤ 16) ∧
    (499 < 500 ∧ 4095 < 4096 ∧ 599 < 500 + 100 ∧ 500 ≤ 600 ∧ 600 ≤ 4095 ∧ 500 + 100 ≤ 600) ∧
    (((inState .settle .none).stateOf 0).trips = true ∧ (inState .rest .none).stateOf 0 = .rest ∧
      (inState .rest .none).heatOf 0 ≤ 0) := ⟨⟨queueExact_queued, by decide⟩, by decide⟩
theorem test_grant_marks_travel_and_drives_cal_down :
    queued.grant.justGranted 0 = true ∧ ({ queued.grant with now := 1 } : State).justGranted 0 = false ∧
      (queued.grant.fader 1).motion.drive = -35 := by decide +kernel

/-- G0 with master F0 and member F1, which follows. -/
def grouped : State :=
  { ready.modRecord 1 fun r => { r with claim := .follow 0, state := .travel } with
    groups := ready.groups.set 0 (some ⟨0, [⟨1, 5, false, false⟩], false⟩) }

theorem met_GroupsFormFollowAndDissolve :
    (ready.hears = true ∧ 4 ≤ 4 ∧ 16 ≤ 16 ∧ (1#16).getLsbD 0 = true ∧ 2#16 ≠ 0#16 ∧ (2#16).getLsbD 0 = false ∧
      ready.group 3 = none ∧ ready.roleOf 0 = .none ∧ grouped.group 0 ≠ none ∧ grouped.roleOf 1 ≠ .none) ∧
    (grouped.hears = true ∧ grouped.group 0 = some ⟨0, [⟨1, 5, false, false⟩], false⟩ ∧ grouped.claimOf 1 = .follow 0 ∧
      (grouped.stateOf 1).takesClaims = true) ∧
    ((0 : Int) ≤ (0 : Nat) + 0 ∧ ((1023 : Nat) : Int) + 0 ≤ 1023 ∧ ((0 : Nat) : Int) + (-1) < 0 ∧
      (1023 : Int) < (1023 : Nat) + 1) := by decide +kernel
theorem met_PageLoadReplacesPageWhole :
    (ready.hears = true ∧ 4 ≤ 4 ∧ 10000 < 10001 ∧ 16 < (List.replicate 17 (⟨0, 0, none⟩ : EntryOperand)).length ∧
      16 ≤ (⟨16, 0, none⟩ : EntryOperand).fader ∧ 1023 < (⟨0, 1024, none⟩ : EntryOperand).target) ∧
    ¬(([⟨3, 1023, some 10000⟩, ⟨3, 0, none⟩] : List EntryOperand).map (·.fader)).Nodup ∧
    (([⟨3, 1023, some 10000⟩, ⟨4, 0, none⟩] : List EntryOperand).map (·.fader)).Nodup ∧
    (∃ r ∈ (withRecalls [waiting .fire]).recalls, r.page = 0) ∧ (∀ r ∈ ready.recalls, r.page ≠ 0) := by decide +kernel

theorem recallsOpen_nil : ready.recallsOpen := fun _ h => by cases h
theorem met_RecallJoinsQueueAndMayStart :
    (ready.hears = true ∧ ready.recallsOpen ∧ 4 ≤ 4 ∧ 3 ≤ 3) ∧
    ((withRecalls [running [none], waiting .now]).recallsOpen ∧
      2 ≤ (withRecalls [running [none], waiting .now]).recalls.length) ∧
    ready.recalls = [] ∧ 0 ≤ ready.timeline.count ∧ (withRecalls [waiting .fire]).recalls ≠ [] := by
  refine ⟨⟨by decide, recallsOpen_nil, by decide⟩, ⟨?_, by decide⟩, by decide⟩
  intro r hr x e
  simp only [withRecalls, List.mem_cons, List.not_mem_nil, or_false] at hr
  rcases hr with rfl | rfl
  · cases e; decide
  · cases e
theorem met_StartedRecallHandsItsEntries :
    ((withRecalls [waiting .now]).recalls = waiting .now :: [] ∧
      ((withRecalls [waiting .now]).page (waiting .now).page).entries = [] ∧ (waiting .now).run = none) ∧
    ((withRecalls [running [none]]).recalls = running [none] :: [] ∧ (running [none]).run = some ⟨0, 60, 3000, [none]⟩ ∧
      ([none] : List (Option Outcome))[0]? = some none) ∧
    (∀ st ∈ [FaderState.touched, .faulted, .calibrating .calWait], (inState st .none).stateOf 0 = st) ∧
    (ready.stateOf 0 = .parked ∧ ready.claimOf 0 = .none ∧ ready.heatOf 0 < ready.settings.heatTrip ∧
      Sys2Proof.dist (ready.posOf 0) 2 ≤ (ready.config 0).arrivalWindow ∧ ready.now ≤ 0 + 6 * 0 ∧
      (ready.config 0).arrivalWindow < Sys2Proof.dist (ready.posOf 0) 3) ∧
    (let s : State := { ready with pages := ready.pages.set 0 ⟨0, [⟨0, 500, none⟩, ⟨1, 0, none⟩]⟩, recalls := [waiting .now] };
      s.recalls = waiting .now :: [] ∧ (s.page 0).entries.zipIdx = [(⟨0, 500, none⟩, 0), (⟨1, 0, none⟩, 1)]) := by
  decide +kernel
/-- An entry near and far, before and after its deadline, in each state that takes claims and over each claim but RECALL. -/
theorem met_StartedRecallHandsItsEntries_held :
    (∀ st ∈ [FaderState.parked, .waiting, .travel, .settle, .rest], ∀ c ∈ [Claim.none, .direct, .lane false, .follow 0],
      let s := { (inState st c).modLane 0 fun l => { l with enabled := c.isLane } with recalls := [running [none]] };
      s.recalls = running [none] :: [] ∧ (s.stateOf 0).takesClaims = true ∧ s.stateOf 0 = st ∧ s.claimOf 0 = c ∧
        c.isRecall = false ∧ (s.fader 0).lane.enabled = c.isLane ∧ s.heatOf 0 < s.settings.heatTrip ∧
        Sys2Proof.dist (s.posOf 0) 2 ≤ (s.config 0).arrivalWindow ∧
        (s.config 0).arrivalWindow < Sys2Proof.dist (s.posOf 0) 3) ∧
    ({ ready with now := 360 } : State).now ≤ 0 + 6 * 0 + 6 * 60 ∧
      ¬({ ready with now := 361 } : State).now ≤ 0 + 6 * 0 + 6 * 60 := by decide +kernel
theorem met_FireStartsAndWithdrawRemovesPending :
    (ready.hears = true ∧ (withRecalls [waiting .fire]).recalls.head? = some (waiting .fire) ∧
      (waiting .fire).run = none ∧ (waiting .fire).condition = .fire ∧ ready.recalls.head? = none ∧
      (waiting .now).condition ≠ .fire) ∧
    (ready.recalls = [] ∧ (running [none]).run ≠ none ∧
      (withRecalls [running [none], waiting .now]).recalls = [running [none], waiting .now] ∧
      (withRecalls [waiting .fire, waiting .now]).recalls = [waiting .fire, waiting .now] ∧
      (waiting (.at 0)).condition = .at 0 ∧ 0 ≤ ready.timeline.count ∧ ¬1 ≤ ready.timeline.count) := by decide +kernel

/-- Page 0 with two entries, its recall RUNNING with the first open, F0 under its claim. -/
def playing : State := playingWith .travel [none, some .arrived]

theorem met_HaltCompletesRunningRecall :
    (ready.hears = true ∧ ready.recalls.head? = none) ∧
    (playing.hears = true ∧ playing.recalls = [running [none, some .arrived]] ∧
      (running [none, some .arrived]).run = some ⟨0, 60, 3000, [none, some .arrived]⟩ ∧
      ([none, some Outcome.arrived] : List (Option Outcome)).length = (playing.page 0).entries.length ∧
      ((playing.page 0).entries.map (·.fader)).Nodup ∧ (playing.page 0).entries[0]? = some ⟨0, 500, none⟩ ∧
      playing.claimOf 0 = .recall 7 0 ∧ (playing.stateOf 0).phase = none) := by decide +kernel

/-- A recall queued behind the one halted: one that starts then, and one that does not; the open entry's fader moving and
at rest. -/
theorem met_HaltCompletesRunningRecall_queued :
    (∀ q ∈ [waiting .now, waiting (.at 0), waiting (.at 1), waiting .fire], ∀ st ∈ [FaderState.travel, .rest],
      let s : State := { playingWith st [none, some .arrived] with recalls := [running [none, some .arrived], q] };
      s.hears = true ∧ s.recalls = running [none, some .arrived] :: [q] ∧ q.run = none ∧
        (s.page 0).entries[0]? = some ⟨0, 500, none⟩ ∧ s.claimOf 0 = .recall 7 0 ∧ (s.stateOf 0).phase = none ∧
        s.stateOf 0 = st) ∧
    (waiting .now).condition = .now ∧ (waiting (.at 0)).condition = .at 0 ∧ 0 ≤ ready.timeline.count ∧
      ¬1 ≤ ready.timeline.count ∧ (waiting .fire).condition = .fire := by decide +kernel

/-- The source is INTERNAL. -/
def internal : State :=
  { ready with
    settings := { ready.settings with source := .internal }
    timeline := { ready.timeline with phase := 0, run := true, count := 5 } }

theorem met_TransportAndTimeSetActOnTimeline :
    ready.hears = true ∧ 2 ≤ 2 ∧ ready.settings.source ≠ .internal ∧ internal.settings.source = .internal ∧
    16777215 < 16777216 ∧ 16777215 ≤ 16777215 ∧ internal.timeline.count < 6 ∧ 4 < internal.timeline.count ∧
    internal.recalls = [] := by decide
theorem lane_inForm_reset : Lane.reset.inForm 0 := by
  unfold Lane.inForm risingAfter Lane.reset
  simp
theorem met_LaneTakesCountChange :
    Lane.reset.inForm 0 ∧ (0 < 1) ∧
    ({ Lane.reset with queue := [⟨1, 500, .ramp⟩, ⟨2, 0, .step⟩] } : Lane).inForm 0 ∧
    (([⟨1, 500, .ramp⟩, ⟨2, 0, .step⟩] : List Point).filter fun p => decide (p.time ≤ 1)).getLast? = some ⟨1, 500, .ramp⟩ ∧
    (([⟨1, 500, .ramp⟩, ⟨2, 0, .step⟩] : List Point).filter fun p => decide (p.time ≤ 2)).getLast? = some ⟨2, 0, .step⟩ ∧
    ((⟨1, 5, 2, 6⟩ : Segment).fromTime < (⟨1, 5, 2, 6⟩ : Segment).toTime ∧ 1 ≤ 1 ∧ 2 ≤ 2) := by
  refine ⟨lane_inForm_reset, by decide, ?_, by decide, by decide, by decide⟩
  unfold Lane.inForm risingAfter Lane.reset
  simp
/-- F0 under its lane, with a point due at the present count. -/
def due (st : FaderState) (now : Time) : State :=
  { (inState st (.lane false)).modLane 0 fun l => { l with enabled := true, queue := [⟨0, 500, .ramp⟩] } with now := now }

/-- A count change at which a lane's value changes and is handed to its fader, in each state the statement speaks of, and
one that starts a recall. -/
theorem met_LaneTakesCountChange_handed :
    (∀ st ∈ [FaderState.parked, .travel, .settle, .rest], (due st 1).startFound .countChange = false ∧
      ((due st 1).fader 0).lane.enabled = true ∧ (due st 1).claimOf 0 = .lane false ∧
      ((due st 1).stateOf 0).takesClaims = true ∧
      (((due st 1).fader 0).lane.step (due st 1).timeline.count).1.value = some 500 ∧
      ((due st 1).fader 0).lane.value = none ∧ 500 ≠ (due st 1).targetOf 0 ∧
      (((due st 1).fader 0).lane.step (due st 1).timeline.count).2 = true) ∧
    (due .travel 1).justGranted 0 = false ∧ (due .parked 1).heatOf 0 < (due .parked 1).settings.heatTrip ∧
    ¬Sys2Proof.dist ((due .parked 1).posOf 0) 500 ≤ ((due .parked 1).config 0).arrivalWindow ∧
    (let s := (due .parked 1).modTrack 0 fun t => { t with pos := 498 };
      Sys2Proof.dist (s.posOf 0) 500 ≤ (s.config 0).arrivalWindow) ∧
    (withRecalls [waiting (.at 0)]).startFound .countChange = true := by decide +kernel
theorem met_LaneTakesCountChange_open : (due .parked 1).recallsOpen := fun _ h => by cases h
theorem met_LaneEnableAndDisable :
    (ready.hears = true ∧ 16 ≤ 16 ∧ 10000 < 10001 ∧ 10000 ≤ 10000 ∧ (ready.fader 0).lane.enabled = false) ∧
    ((ready.stateOf 0).takesClaims = true ∧ (ready.claimOf 0).isRecall = false ∧ (ready.claimOf 0).isLane = false ∧
      ((inState .travel (.recall 0 0)).claimOf 0).isRecall = true) ∧
    (let s := (inState .travel (.lane false)).modLane 0 fun l => { l with enabled := true };
      s.hears = true ∧ (s.fader 0).lane.enabled = true ∧ (s.claimOf 0).isLane = true ∧ (s.stateOf 0).phase = none) := by
  decide
theorem met_PointsAreTakenWholeOrRefusedWhole :
    (ready.hears = true ∧ 16 ≤ 16 ∧ 8 < (List.replicate 9 (⟨1, 0, 0⟩ : PointOperand)).length ∧
      16777215 < 16777216 ∧ 1023 < 1024 ∧ 2 ≤ 2) ∧
    ¬(([⟨1, 0, 0⟩, ⟨1, 0, 1⟩] : List PointOperand).map (·.time)).Pairwise (· < ·) ∧
    (([⟨1, 1023, 0⟩, ⟨16777215, 0, 1⟩] : List PointOperand).map (·.time)).Pairwise (· < ·) ∧
    (ready.fader 0).lane.queue.getLast? = none ∧ (ready.fader 0).lane.lastTime = none ∧ 0 ≤ ready.timeline.count ∧
    ready.timeline.count < 1 ∧ (ready.fader 0).lane.queue.length + 8 ≤ 16 ∧
    (let s := ready.modLane 0 fun l => { l with queue := (List.range 16).map fun k => ⟨k + 1, 0, .step⟩ };
      16 < (s.fader 0).lane.queue.length + 1) := by decide +kernel

/-- Every setting at the ends of its range, and just outside. -/
theorem met_MeterSetWritesPresentSettings :
    ready.hears = true ∧ 0xFFFFFFFF#32 ≠ 0#32 ∧
    (∀ o ∈ ([⟨some 0, some 0, some 0, some 1, some 0, some 0, some 0, some 0⟩,
      ⟨some 2, some 1, some 1, some 64, some 10000, some 10000, some 255, some 1⟩,
      ⟨none, none, none, none, some 65535, some 65535, none, none⟩] : List MeterSetOperand),
      (∀ n, o.mode = some n → n ≤ 2) ∧ (∀ n, o.source = some n → n ≤ 1) ∧ (∀ n, o.scaleTable = some n → n ≤ 1) ∧
      (∀ n, o.fallInterval = some n → 1 ≤ n ∧ n ≤ 64) ∧ (∀ n, o.holdTime = some n → n = 65535 ∨ n ≤ 10000 ∧ n % 50 = 0) ∧
      (∀ n, o.overloadHold = some n → n = 65535 ∨ n ≤ 10000 ∧ n % 5 = 0) ∧ (∀ n, o.threshold = some n → n ≤ 255) ∧
      (∀ n, o.pairLink = some n → n ≤ 1)) ∧
    (∀ o ∈ ([⟨some 3, none, none, none, none, none, none, none⟩, ⟨none, some 2, none, none, none, none, none, none⟩,
      ⟨none, none, some 2, none, none, none, none, none⟩, ⟨none, none, none, some 0, none, none, none, none⟩,
      ⟨none, none, none, some 65, none, none, none, none⟩, ⟨none, none, none, none, some 10050, none, none, none⟩,
      ⟨none, none, none, none, some 51, none, none, none⟩, ⟨none, none, none, none, none, some 6, none, none⟩,
      ⟨none, none, none, none, none, none, some 256, none⟩, ⟨none, none, none, none, none, none, none, some 2⟩] :
      List MeterSetOperand), MeterSetOperand.ok o = false) := by
  refine ⟨by decide, by decide, ?_, by decide +kernel⟩
  simp

/-- M0 takes its level from the link, and M2 with M3 is a LINKED pair. -/
def metered : State :=
  { ready with settings := { ready.settings with
      meters := ready.settings.meters.set 0 { MeterSettings.default with source := .link }
      pairs := ready.settings.pairs.set 1 true } }

/-- A pair that becomes LINKED, one that is LINKED, and a latch ended on the lower meter. -/
theorem met_MeterSetWritesPresentSettings_pairs :
    (ready.linked 2 = false ∧ (12#32).getLsbD (lower (3 : MeterIx)).val = true ∧ (8#32).getLsbD (lower (3 : MeterIx)).val = false ∧
      (8#32).getLsbD (upper (3 : MeterIx)).val = true) ∧
    metered.linked 2 = true ∧
    (let s := { ready.modMeterConfig 2 (fun c => { c with overloadHold := none }) with
        meters := ready.meters.set 2 { Meter.reset with lamp := true, lampElapsed := 9 } };
      (s.meterConfig 2).overloadHold = none ∧ (s.meter 2).lamp = true ∧
      leaves (.meterSet .addressed 4 ⟨none, none, none, none, none, some 500, none, none⟩) s (fun t =>
        decide ((t.meterConfig 2).overloadHold ≠ none) && decide ((t.meter 2).lampElapsed = 0) && (t.meter 2).lamp)
        = true) := by decide +kernel
/-- A pair that is not named, and a request without a pair link. -/
theorem met_MeterSetWritesPresentSettings_unnamed :
    (12#32).getLsbD (lower (1 : MeterIx)).val = false ∧ (12#32).getLsbD (upper (1 : MeterIx)).val = false ∧
      leaves (.meterSet .addressed 12 ⟨some 0, none, none, none, none, none, none, none⟩) metered (fun t =>
        t.linked 2 && decide (t.linked 0 = metered.linked 0)) = true := by decide +kernel
theorem met_LevelsFeedMetersAndHoldClearDropsHolds :
    (metered.hears = true ∧ 32 < (List.replicate 33 (⟨0, 0, 0⟩ : LevelOperand)).length ∧ 32 ≤ 32 ∧ 255 < 256 ∧ 2 ≤ 2 ∧
      (metered.meterConfig 0).source = .link ∧ (metered.meterConfig 31).source = .stream) ∧
    (8#32 ≠ 0#32 ∧ (8#32).getLsbD (2 : MeterIx).val = false ∧ metered.linked 2 = true ∧
      (8#32).getLsbD (upper 2).val = true ∧ metered.linked 0 = false) := by decide +kernel
theorem met_PlainSettingsAreWritten :
    (ready.hears = true ∧ 2 ≤ 2 ∧ (∀ x ∈ (Vector.replicate 40 0).toList, x ≤ 255) ∧
      ¬(Vector.replicate 40 0).toList.Pairwise (· > ·) ∧ 255 < 256 ∧ scaleInForm defaultScaleB) ∧
    (3 ≤ 3 ∧ ¬(99 = 0 ∨ 100 ≤ 99 ∧ 99 ≤ 5000 ∧ 99 % 100 = 0) ∧ (100 ≤ 100 ∧ 5000 ≤ 5000 ∧ 5000 % 100 = 0) ∧
      linkRateOf 2 = some .two) ∧
    (31 ∉ [24, 25, 30, 50, 60] ∧ sourceOf 2 = some .link ∧ frameRateOf 60 = some .fps60) := by
  unfold scaleInForm
  decide +kernel
theorem met_NoticesAreRefreshedAndCollectedInOrder :
    (Notice.key (.move 0) ∉ ([.capture 0] : List Notice).map Notice.key) ∧
    (Notice.key (.link .lost true) ∉ ([.move 0] : List Notice).map Notice.key ∧
      Notice.key (.link .restored false) = Notice.key (.link .lost true)) ∧
    (ready.hears = true ∧ 0 < 1 ∧ 16 < 17 ∧ 1 ≤ 1 ∧ 16 ≤ 16) ∧
    (let s : State := { ready with notices := [.move 0] };
      s.notices = .move 0 :: [] ∧ 0 < (s.noticeRecord (.move 0)).length ∧ (s.noticeRecord (.move 0)).length ≤ 126) := by
  decide +kernel
theorem met_StoreWritesSnapshotOfSettings :
    let s : State := { ready with storing := some Settings.default }
    (ready.hears = true ∧ ready.storing = none) ∧ (s.hears = true ∧ s.storing ≠ none) ∧
    s.part = .ready ∧ s.storing = some Settings.default := by decide +kernel
theorem met_RestartClearsEveryBlockButSettingsAndHeat :
    let s : State := { ready with storing := some Settings.default }
    (ready.hears = true ∧ ready.storing = none) ∧ s.hears = true ∧ s.storing ≠ none := by decide +kernel

/-- A frame is being received. -/
def receiving (l : List Byte) : State := { ready with link := { ready.link with receiver := .inFrame, bytes := l } }

theorem met_BytesGatherIntoCheckedFrames :
    (ready.part = .ready ∧ ready.link.receiver = .ready) ∧
    ({ ready with link := { ready.link with receiver := .waitIdle } } : State).link.receiver = .waitIdle ∧
    ((receiving [0]).link.receiver = .inFrame ∧ (receiving [0]).link.bytes = [0]) ∧
    ((receiving [0, 1]).link.receiver = .inFrame ∧ (receiving [0, 1]).link.bytes = [0, 1] ∧ (128#8).toNat ≤ 128 ∧
      128 < (129#8).toNat) ∧
    ((receiving [0, 1, 0]).link.bytes = 0 :: 1 :: 0 :: [] ∧ (0#8).toNat ≤ 128 ∧ ([] : List Byte).length < (0#8).toNat + 1) ∧
    ((receiving [0, 1, 0, 9]).link.bytes = 0 :: 1 :: 0 :: [] ++ [9] ∧ ([] : List Byte).length = (0#8).toNat) := by
  decide +kernel
theorem met_LineEventsMoveTheReceiver :
    ready.part = .ready ∧ ready.hears = true ∧ (receiving []).link.receiver = .inFrame ∧
    ((30#8).toNat < 31 ∧ (30#8).toNat ≠ ready.link.address ∧ ready.link.address < 31 ∧ 43 < (44#8).toNat) ∧
    ∀ x ∈ [Receiver.waitIdle, .replying], ∀ b : Bool,
      ({ ready with link := { ready.link with receiver := x, dir := b } } : State).link.receiver = x := by decide +kernel
theorem met_ValidFramesAreJudgedByAddressAndKind :
    (ready.hears = true ∧ ready.link.address < 31 ∧ (0#8).toNat = ready.link.address ∧ (31#8).toNat = 31 ∧
      (128#8).toNat = 128 + ready.link.address) ∧
    ((7#8).toNat ≠ ready.link.address ∧ (7#8).toNat ≠ 31 ∧ (7#8).toNat ≠ 128 + ready.link.address) ∧
    (43 < (44#8).toNat ∧ 1 ≤ (1#8).toNat ∧ (43#8).toNat ≤ 43) ∧
    (∀ x ∈ [(1, 4), (18, 7), (31, 0), (34, 40), (35, 1), (43, 1)], payloadFits x.1 x.2 = false) ∧
    (∀ x ∈ [(1, 5), (18, 3), (18, 8), (31, 1), (31, 7), (34, 41), (35, 0), (43, 0)], payloadFits x.1 x.2 = true) := by
  decide

/-- Moving under a DIRECT claim with a lane and a calibration elsewhere. -/
def busy : State :=
  ((inState .travel .direct).modRecord 1 fun r => { r with state := .calibrating .calUp }).modFader 2 fun x =>
    { x with lane := { x.lane with enabled := true }, record := { x.record with claim := .lane true, state := .touched } }

theorem claimsFit_busy : busy.claimsFit := by
  have h : ∀ f : FaderIx, (busy.claimOf f).isLane = (busy.fader f).lane.enabled ∧
      (busy.stateOf f = .travel ∧ busy.claimOf f = .direct ∨ busy.stateOf f = .calibrating .calUp ∧ busy.claimOf f = .none ∨
        busy.stateOf f = .touched ∧ busy.claimOf f = .lane true ∨ busy.stateOf f = .parked ∧ busy.claimOf f = .none) := by
    decide +kernel
  intro f
  obtain ⟨h1, h2 | h2 | h2 | h2⟩ := h f <;> refine ⟨h1, ?_⟩ <;> simp [h2, Claim.fits, Claim.isRecall]
theorem met_LinkLossTearsDownHostWork : busy.part = .ready ∧ busy.link.lost = false ∧ busy.settings.linkTimeout ≠ 0 ∧
    busy.claimsFit ∧ busy.queueExact :=
  ⟨by decide, by decide, by decide, claimsFit_busy, by decide, by decide +kernel⟩

theorem met_ServoSampleSensesAndDrives :
    ready.part = .ready ∧ (ready.fader 0).track.first = false ∧
    ((ready.modTrack 0 fun t => { t with first := true }).fader 0).track.first = true ∧
    ((ready.config 0).calLow ≤ (0#12).toNat + 200 ∧ ¬(4095#12).toNat + 1 ≤ 4095) ∧
    ((ready.modConfig 0 fun c => { c with calLow := 201 }).config 0).calLow > (0#12).toNat + 200 ∧
    0 < 1 ∧ ((-25 : Int) ≤ ((0 : Nat) : Int) - (25 : Nat) ∧ (25 : Int) ≤ ((25 : Nat) : Int) - (0 : Nat)) ∧
    ((ready.stateOf 0).driven = false ∧ ((inState .settle .none).stateOf 0).driven = true) := by
  decide +kernel
/-- A sample that leaves the fader in each kind of state, with a heat window open and full. -/
theorem met_ServoSampleSensesAndDrives_states :
    (∀ st ∈ [FaderState.travel, .settle, .calibrating .calDown, .calibrating .calUp, .parked, .rest],
      ((inState st .none).sampleMotion 0 200).stateOf 0 = st) ∧
    (let s := (inState .settle .none).modHeat 0 fun h => { h with samples := 20 }; 20 ≤ (s.fader 0).heat.samples) ∧
    leaves (.servoSample 0 300 false) (inState .settle .none) (fun t =>
      decide ((t.fader 0).motion.drive = -100) && decide ((t.fader 0).heat = ⟨0, 100, true, 1, -100⟩)) = true := by decide +kernel
theorem met_ServoSampleSensesAndDrives_open (st : FaderState) : (inState st .none).recallsOpen := fun _ h => by cases h
/-- DRIVE-READ after the sample at which the fader arrives: the motor is off, and the level is still that sample's (R70). -/
theorem test_drive_level_of_most_recent_sample :
    let s := ((inState .settle .none).modMotion 0 fun m => { m with setpoint := 1, settleCount := 15 });
    leaves (.servoSample 0 200 false) s (fun t => decide (t.stateOf 0 = .parked) && decide ((t.fader 0).motion.drive = 0) &&
      decide (t.driveSnapshot.faders.head? = some (0, false, 4))) = true := by decide +kernel
theorem test_motor_outputs :
    (let s := (inState .travel .none).modMotion 0 fun m => { m with drive := 40 }; s.fda 0 = 40 ∧ s.fdb 0 = 0) ∧
    (let s := (inState .travel .none).modMotion 0 fun m => { m with drive := -40 }; s.fda 0 = 0 ∧ s.fdb 0 = 40) := by
  decide +kernel

/-- F0 in TRAVEL with a ramp from 0 to 500 that takes 5 ms from the start. -/
def ramping : State :=
  (inState .travel .direct).modMotion 0 fun m => { m with ramp := .running ⟨0, 500, 0, 10⟩ }

/-- F0 in SETTLE at its fifteenth sample. -/
def settling : State := (inState .settle .direct).modMotion 0 fun m => { m with settleCount := 15 }

theorem met_RampEndsAndFaderArrives :
    (let s := { ramping with now := 30 };
      s.part = .ready ∧ s.stateOf 0 = .travel ∧ (s.fader 0).motion.ramp = .running ⟨0, 500, 0, 10⟩ ∧
        (s.fader 0).heat.samples < 20 ∧ (s.fader 0).track.first = false ∧ s.masterOf 0 = none ∧
        3 * 10 ≤ max s.now (s.fader 0).track.nextSample - 0) ∧
    (settling.part = .ready ∧ settling.stateOf 0 = .settle ∧ (settling.fader 0).motion.settleCount = 15 ∧
      (settling.fader 0).heat.samples < 20 ∧ (settling.fader 0).track.first = false ∧ settling.masterOf 0 = none ∧
      settling.recalls = [] ∧ classify 200 3895 (200#12).toNat = .inWindow ∧
      Sys2Proof.dist (mapRaw (settling.config 0).calLow (settling.config 0).calHigh (200#12).toNat) (settling.targetOf 0)
        ≤ (settling.config 0).arrivalWindow) ∧
    (0 < (⟨0, 1, 0, 1⟩ : RampItems).duration ∧ 3 ≤ 3 * (⟨0, 1, 0, 1⟩ : RampItems).duration) := by decide +kernel

/-- F0 in SETTLE at its fifteenth sample under a claim; G0 with master F1 and member F0 leads or not. -/
def settlingFollow (leading : Bool) : State :=
  { (inState .settle (.follow 0)).modMotion 0 fun m => { m with settleCount := 15 } with
    groups := ready.groups.set 0 (some ⟨1, [⟨0, 5, true, false⟩], leading⟩) }

/-- F0 in SETTLE at its fifteenth sample under the claim of a RUNNING recall's first entry, with a deadline. -/
def settlingRecall (due : Time) (o : List (Option Outcome)) : State :=
  ((playingWith .settle o).modMotion 0 fun m => { m with settleCount := 15 }).modRecord 0 fun r =>
    { r with deadline := some due }

/-- The arrival of a FOLLOW claim whose master leads and does not, and of a RECALL claim at its deadline and after it, as
the last open entry and not. -/
theorem met_RampEndsAndFaderArrives_claims :
    (∀ b, let s := settlingFollow b;
      s.part = .ready ∧ s.stateOf 0 = .settle ∧ (s.fader 0).motion.settleCount = 15 ∧ (s.fader 0).heat.samples < 20 ∧
        (s.fader 0).track.first = false ∧ s.masterOf 0 = none ∧ s.recalls = [] ∧ s.claimOf 0 = .follow 0 ∧
        s.leading 0 = b) ∧
    (∀ o ∈ [[none, some Outcome.arrived], [none, none]], let s := { settlingRecall 1 o with now := 2 };
      s.part = .ready ∧ s.stateOf 0 = .settle ∧ (s.fader 0).motion.settleCount = 15 ∧ (s.fader 0).heat.samples < 20 ∧
        (s.fader 0).track.first = false ∧ s.masterOf 0 = none ∧ s.claimOf 0 = .recall (running o).tag 0 ∧
        (s.fader 0).record.deadline = some 1 ∧ s.recalls = [running o] ∧ (running o).run = some ⟨0, 60, 3000, o⟩ ∧
        o[0]? = some none ∧ classify (s.config 0).calLow (s.config 0).calHigh (200#12).toNat = .inWindow ∧
        Sys2Proof.dist (mapRaw (s.config 0).calLow (s.config 0).calHigh (200#12).toNat) (s.targetOf 0)
          ≤ (s.config 0).arrivalWindow) ∧
    (let s := { settlingRecall 9 [none, none] with now := 9 }; max s.now (s.fader 0).track.nextSample ≤ 9) ∧
    (let s := { settlingRecall 1 [none, none] with now := 2 }; ¬max s.now (s.fader 0).track.nextSample ≤ 1) := by
  decide +kernel
theorem met_RampEndsAndFaderArrives_open : ({ ramping with now := 30 } : State).recallsOpen := fun _ h => by cases h

/-- F0 in TRAVEL or SETTLE after its ramp has ended. -/
def ended (st : FaderState) : State := (inState st .direct).modMotion 0 fun m => { m with ramp := .ended ⟨0, 0, 0, 10⟩ }

/-- A ramp under way, and one that has ended with the position within the arrival window and beyond it. -/
theorem met_RampEndsAndFaderArrives_window :
    (∀ s ∈ [ended .travel, ended .settle, ramping], s.part = .ready ∧
      (s.stateOf 0 = .travel ∨ s.stateOf 0 = .settle ∧ (s.fader 0).motion.settleCount < 15) ∧
      (s.fader 0).heat.samples < 20 ∧ (s.fader 0).track.first = false ∧ s.masterOf 0 = none ∧
      (s.fader 0).fault.stallRun = none) ∧
    (∀ raw ∈ [200#12, 300#12], classify (ready.config 0).calLow (ready.config 0).calHigh raw.toNat = .inWindow) ∧
    (Sys2Proof.dist (mapRaw 200 3895 200) ((ended .settle).targetOf 0) ≤ (ready.config 0).arrivalWindow ∧
      ¬Sys2Proof.dist (mapRaw 200 3895 300) ((ended .settle).targetOf 0) ≤ (ready.config 0).arrivalWindow) ∧
    (max ramping.now (ramping.fader 0).track.nextSample - 0 < 3 * 10) ∧
    leaves (.servoSample 0 300 false) (ended .settle) (fun t => decide (t.stateOf 0 = .travel)) = true ∧
    leaves (.servoSample 0 200 false) (ended .travel) (fun t => decide (t.stateOf 0 = .settle)) = true := by decide +kernel
theorem met_RampEndsAndFaderArrives_window_open (st : FaderState) : (ended st).recallsOpen := fun _ h => by cases h

/-- F0 in a calibration phase at a time, with a captured low. -/
def finding (p : CalPhase) (now : Time) (x : CalTiming) : State :=
  { (inState (.calibrating p) .none).setCal 0 (some ⟨some x, some 210, none⟩) with now := now }

theorem met_CalibrationPhasesEndByStopOrTime :
    (∀ s ∈ [finding .calDown 480 ⟨0, 210, 0⟩, finding .calUp 480 ⟨0, 3800, 0⟩, finding .calUp 18001 ⟨0, 9, 18001⟩],
      s.part = .ready ∧ (s.fader 0).heat.samples < 20 ∧ (s.fader 0).track.first = false ∧ s.masterOf 0 = none ∧
        s.recalls = []) ∧
    (Sys2Proof.dist (217#12).toNat 210 < 8 ∧ 0 + 480 ≤ 480) ∧ ¬Sys2Proof.dist (218#12).toNat 210 < 8 ∧ 0 + 18000 < 18001 ∧
    (2400 + 210 ≤ (3800#12).toNat ∧ (2609#12).toNat < 2400 + 210) ∧
    (finding .calDown 480 ⟨0, 210, 0⟩).stateOf 0 = .calibrating .calDown ∧
    (finding .calUp 480 ⟨0, 3800, 0⟩).stateOf 0 = .calibrating .calUp ∧
    ((finding .calUp 480 ⟨0, 3800, 0⟩).fader 0).cal = some ⟨some ⟨0, 3800, 0⟩, some 210, none⟩ := by decide +kernel

/-- F0 with the runs of Chapter 5 begun at 0. -/
def withRuns (st : FaderState) (now : Time) : State :=
  { ((inState st .none).modFader 0 fun x => { x with
      motion := { x.motion with ramp := .ended ⟨0, 500, 0, 0⟩, setpoint := 500 }
      record := { x.record with target := 500 }
      fault := { x.fault with stallRun := some (0, 0), trackRun := some 0, overcurrentRun := some 0 } }) with now := now }

theorem met_ConditionsBecomeCurrentAndLatch :
    (∀ st ∈ [FaderState.parked, .waiting, .travel, .settle, .touched, .rest, .faulted, .calibrating .calWait,
        .calibrating .calDown, .calibrating .calUp, .calibrating .calReview], ∀ now ∈ [6, 120, 720], let s := withRuns st now;
      s.part = .ready ∧ s.stateOf 0 = st ∧ (s.fader 0).heat.samples < 20 ∧ (s.fader 0).track.first = false ∧
        s.masterOf 0 = none ∧ (s.fader 0).fault.current = ⟨false, false, false⟩ ∧
        (s.fader 0).fault.latched.isEmpty = true ∧ (s.config 0).watch = ⟨true, true, true⟩ ∧
        (s.fader 0).motion.ramp = .ended ⟨0, 500, 0, 0⟩ ∧ max s.now (s.fader 0).track.nextSample = now) ∧
    (classify 200 3895 (200#12).toNat = .inWindow ∧ Sys2Proof.dist (mapRaw 200 3895 200) 0 < 4 ∧
      10 ≤ Sys2Proof.dist 10 (mapRaw 200 3895 200) ∧ ¬10 ≤ Sys2Proof.dist 9 (mapRaw 200 3895 200)) ∧
    (3 * 240 ≤ 720 - 0 ∧ ¬3 * 241 ≤ 720 - 0 ∧
      10 ≤ Sys2Proof.dist ((⟨0, 500, 0, 241⟩ : RampItems).setpointAt (720 - 0)) (mapRaw 200 3895 200)) ∧
    ¬classify 201 3895 (0#12).toNat = .inWindow ∧ FaderState.travel.finding = false := by decide +kernel
theorem met_ConditionsBecomeCurrentAndLatch_open : (withRuns (.calibrating .calWait) 120).recallsOpen := fun _ h => by cases h
/-- STALL and OVERCURRENT under an open recall entry, which is its recall's last. -/
theorem met_ConditionsBecomeCurrentAndLatch_entry :
    let s : State := { (withRuns .settle 720).modRecord 0 fun r => { r with claim := .recall 7 0 } with
      recalls := [running [none]] }
    (s.recalls = [running [none]] ∧ s.stateOf 0 = .settle ∧ s.claimOf 0 = .recall 7 0 ∧ s.masterOf 0 = none) ∧
    leaves (.stallCondition 0 200#12 false) s (fun t => decide (t.stateOf 0 = .faulted) && decide (t.recalls = [])) = true ∧
    leaves (.overcurrentCondition 0 200#12 true) s (fun t => decide (t.stateOf 0 = .faulted) && decide (t.recalls = []))
      = true := by decide +kernel

/-- F0's touch counts. -/
def touching (on : Bool) (present absent : Nat) : State :=
  ready.modTouch 0 fun t => { t with on := on, present := present, absent := absent }

theorem met_TouchesAreDebouncedAndTaken :
    (ready.part = .ready ∧ (ready.config 0).touchEnable = true ∧
      ((ready.modConfig 0 fun c => { c with touchEnable := false }).config 0).touchEnable = false) ∧
    (((touching false 5 0).fader 0).touch.present < 6 ∧ 6 ≤ ((touching false 6 0).fader 0).touch.present ∧
      ((touching true 0 49).fader 0).touch.absent < 50 ∧ 50 ≤ ((touching true 0 50).fader 0).touch.absent ∧
      ((touching true 0 50).fader 0).touch.on = true ∧ ((touching false 6 0).fader 0).touch.on = false) ∧
    ((ready.stateOf 0).takesClaims = true ∧ ready.recalls = [] ∧ (inState .faulted .none).stateOf 0 = .faulted ∧
      ((inState .rest (.lane false)).claimOf 0).isLane = true ∧ (inState .touched .none).stateOf 0 = .touched ∧
      (inState .touched .none).claimOf 0 = .none) := by decide +kernel
/-- TOUCH-ON in each phase of a calibration, and under an open recall entry. -/
theorem met_TouchesAreDebouncedAndTaken_ended :
    (∀ p ∈ [CalPhase.calWait, .calDown, .calUp, .calReview],
      let s := (finding p 0 ⟨0, 210, 0⟩).modTouch 0 fun t => { t with present := 6 };
      s.stateOf 0 = .calibrating p ∧ (s.fader 0).cal = some ⟨some ⟨0, 210, 0⟩, some 210, none⟩ ∧
        (s.fader 0).touch.on = false ∧ 6 ≤ (s.fader 0).touch.present ∧ (s.config 0).touchEnable = true) ∧
    (let s : State := { ((inState .travel (.recall 7 0)).modTouch 0 fun t => { t with present := 6 }) with
        recalls := [running [none]] };
      s.recalls = [running [none]] ∧ (s.stateOf 0).takesClaims = true ∧ s.claimOf 0 = .recall 7 0 ∧
      leaves (.touchOn 0) s (fun t => decide (t.stateOf 0 = .touched) && decide (t.recalls = [])) = true) := by
  decide +kernel
/-- F0 TOUCHED under its suspended LANE claim, with a lane value, its release mode and its heat. -/
def held (mode : Release) (value : Option Nat) (heat : Nat) : State :=
  (((inState .touched (.lane true)).modLane 0 fun l => { l with enabled := true, value := value }).modHeat 0 fun h =>
    { h with heat := heat }).modConfig 0 fun c => { c with release := mode }

/-- TOUCH-OFF over a suspended LANE claim, under either release mode, with a lane value and without, cool and hot; and of a
group member. -/
theorem met_TouchesAreDebouncedAndTaken_released :
    (∀ m ∈ [Release.return, .stay], ∀ v ∈ [none, some 2, some 500], ∀ h ∈ [0, 4095], let s := held m v h;
      s.stateOf 0 = .touched ∧ s.claimOf 0 = .lane true ∧ (s.fader 0).lane.enabled = true ∧ (s.fader 0).lane.value = v ∧
        (s.config 0).release = m) ∧
    ((held .return none 0).heatOf 0 < (held .return none 0).settings.heatResume ∧
      (held .return none 0).heatOf 0 < (held .return none 0).settings.heatTrip ∧
      (held .return none 4095).settings.heatResume ≤ (held .return none 4095).heatOf 0) ∧
    (let s : State := { inState .touched .none with groups := ready.groups.set 0 (some ⟨1, [⟨0, 5, false, false⟩], false⟩) };
      s.stateOf 0 = .touched ∧ (s.claimOf 0).isFollow = false ∧ s.masterOf 0 = none ∧
        s.memberOf 0 = some (0, ⟨1, [⟨0, 5, false, false⟩], false⟩, ⟨0, 5, false, false⟩)) := by decide +kernel
theorem met_HeatWindowEndChangesHeatThenTests :
    (let s := (inState .settle .none).modHeat 0 fun _ => ⟨2996, 2000, true, 20, 0⟩;
      s.part = .ready ∧ 20 ≤ (s.fader 0).heat.samples ∧ (s.stateOf 0).trips = true ∧
        s.settings.heatTrip ≤ min 4095 (2996 + 2000 / 20 / 25) ∧ s.settings.heatResume < 3000) ∧
    (let s := (inState .rest .none).modHeat 0 fun _ => ⟨1501, 0, false, 20, 0⟩;
      s.part = .ready ∧ 20 ≤ (s.fader 0).heat.samples ∧ s.stateOf 0 = .rest ∧ 1501 - 1 ≤ s.settings.heatResume ∧
        s.settings.heatResume < s.settings.heatTrip) := by decide +kernel
theorem met_RecallExpiryStopsFader :
    let s := playing.modRecord 0 fun r => { r with expiry := some 6 }
    (s.part = .ready ∧ s.claimOf 0 = .recall (running [none, some .arrived]).tag 0 ∧ (s.fader 0).record.expiry = some 6 ∧
      s.recalls = [running [none, some .arrived]] ∧ (s.stateOf 0).phase = none ∧
      ([none, some Outcome.arrived] : List (Option Outcome))[0]? = some none) ∧
    none ∉ ([none, some Outcome.arrived] : List (Option Outcome)).set 0 (some .expired) ∧
    none ∈ ([none, none] : List (Option Outcome)).set 0 (some .expired) := by decide +kernel
theorem met_FrameEventsAdvanceTheCount :
    (ready.part = .ready ∧ ready.timeline.count ≤ 16777215 ∧ ready.settings.source = .external) ∧
    (internal.part = .ready ∧ internal.settings.source ≠ .external ∧ internal.settings.source = .internal) ∧
    (let s : State := { ready with timeline := { ready.timeline with run := true, count := 16777215 } };
      s.timeline.run = true ∧ s.timeline.locked = true ∧ s.timeline.count ≤ 16777215 ∧ ¬s.timeline.count < 16777215) := by
  decide

/-- R121: a TIME-SOURCE with another rate at 1000/6 ms while STOP; the next event is the first whole period of the new rate
after it. -/
theorem test_internal_rate_change_in_stop :
    let s : State := { internal with now := 1000, timeline := { internal.timeline with run := false, frames := 4 } };
    leaves (.timeSource .addressed 1 60) s (fun t => decide (t.timeline.phase = 0) && decide (t.timeline.frames = 10) &&
      leaves .internalFrameEvent t (fun u => decide (u.now = 1100) && decide (u.timeline.count = 5))) = true := by decide
theorem met_PlainSettingsAreWritten_internal :
    let s : State := { internal with now := 1000, timeline := { internal.timeline with run := false } };
    s.hears = true ∧ sourceOf 1 = some .internal ∧ frameRateOf 60 = some .fps60 ∧ s.timeline.run = false ∧
      s.timeline.phase ≤ s.now := by decide

/-- R120, Table 8-1: the replies carry sync timer, held at three frame periods, and generator phase. -/
theorem test_timeline_reply_carries_timer_and_phase :
    let s : State := { internal with now := 1000, timeline := { internal.timeline with syncStart := 900 } };
    leaves (.timeSet .addressed 5) s (fun t => decide ((t.link.reply.map (·.data)) =
      some (.timeline ⟨5, true, .internal, .fps25, true, 100, 0⟩))) = true ∧
    leaves (.timeSet .addressed 5) { s with now := 5000 } (fun t => decide ((t.link.reply.map (·.data)) =
      some (.timeline ⟨5, true, .internal, .fps25, true, 720, 0⟩))) = true := by decide

/-- M0 with a bar, a hold and an input. -/
def showing (mode : MeterMode) (x : Meter) : State :=
  { ready with
    meters := ready.meters.set 0 x
    settings := { ready.settings with meters := ready.settings.meters.set 0 { MeterSettings.default with mode := mode } } }

theorem met_DisplayFrameStepsMeters :
    let x : Meter := { Meter.reset with acc := 100, bar := 50, hold := 40, lamp := true }
    (ready.part = .ready ∧ ready.linked 0 = false) ∧
    (x.bar < x.acc ∧ x.bar < 255 ∧ x.fall + 1 < 4 ∧ 4 ≤ 3 + 1 ∧ x.holdState = .holding ∧ x.hold < 50 ∧
      x.hold < x.bar ∧ ¬x.bar ≤ x.hold) ∧
    (∀ m, ((showing m x).meterConfig 0).mode = m ∧ ((showing m x).meterConfig 0).holdTime = some 1500 ∧
      ((showing m x).meterConfig 0).overloadHold = some 1000 ∧ ¬(x.clip = true ∨ x.acc ≤ 2)) ∧
    (min 2000 (298 + 1) < 1500 / 5 ∧ 1500 / 5 ≤ min 2000 (299 + 1) ∧ min 2000 (198 + 1) < 1000 / 5 ∧
      1000 / 5 ≤ min 2000 (199 + 1)) := by
  refine ⟨by decide +kernel, by decide, fun m => ?_, by decide⟩
  cases m <;> decide +kernel
/-- A new peak over either hold state, a hold of 0 ms, an INFINITE hold and a LATCHED lamp. -/
theorem met_DisplayFrameStepsMeters_endless :
    let x : Meter := { Meter.reset with acc := 100, bar := 50, hold := 40, lamp := true }
    (∀ h ∈ [none, some 0, some 4, some 50], let s := (showing .peak x).modMeterConfig 0 fun c =>
        { c with holdTime := h, overloadHold := none };
      (s.meterConfig 0).holdTime = h ∧ (s.meterConfig 0).overloadHold = none ∧ (s.meter 0).lamp = true ∧
        ¬((s.meter 0).clip = true ∨ (s.meter 0).acc ≤ (s.meterConfig 0).threshold)) ∧
    leaves .displayFrame (showing .peak { x with acc := 30 }) (fun t =>
      decide ((t.meter 0).hold = 30) && decide ((t.meter 0).holdState = .holding)) = true ∧
    leaves .displayFrame (showing .peak { x with acc := 30, holdState := .following }) (fun t =>
      decide ((t.meter 0).hold = 30) && decide ((t.meter 0).holdState = .holding)) = true := by decide +kernel
/-- A LINKED pair holds a peak and lights its lamp, its hold time and overload hold those of its lower meter. -/
theorem met_DisplayFrameStepsMeters_linked :
    let x : Meter :=
      { Meter.reset with
        acc := 100, bar := 50, hold := 40, holdState := .holding, holdElapsed := 299, lamp := true, lampElapsed := 199 }
    let s : State := { metered with meters := (metered.meters.set 2 x).set 3 x }
    s.part = .ready ∧ s.linked 2 = true ∧ s.linked 3 = true ∧ lower (3 : MeterIx) = 2 ∧
      (s.meterConfig 2).holdTime = some 1500 ∧ (s.meterConfig 2).overloadHold = some 1000 ∧
      (∀ m : MeterIx, m = 2 ∨ m = 3 → (s.meter m).holdState = .holding ∧ (s.meter m).lamp = true ∧
        ¬((s.meter m).clip = true ∨ (s.meter m).acc ≤ (s.meterConfig m).threshold)) ∧
      (s.meter 3).hold < 50 ∧ 1500 / 5 ≤ min 2000 ((s.meter 3).holdElapsed + 1) ∧
      1000 / 5 ≤ min 2000 ((s.meter 3).lampElapsed + 1) := by decide +kernel
theorem met_StreamFramesFeedMetersOrAreDiscarded :
    (ready.part = .ready ∧ ready.stream.gathering = false ∧ (List.replicate 1023 false).length ≠ 1024) ∧
    (({ ready with stream := { ready.stream with gathering := true } } : State).stream.gathering = true ∧
      (List.replicate 1024 false).length = 1024) ∧
    (metered.meterConfig 0).source = .link ∧ (metered.meterConfig 1).source = .stream ∧ ready.stream.live = true :=
  ⟨⟨by decide, by decide, by rw [List.length_replicate]; decide⟩, ⟨by decide, List.length_replicate⟩, by decide +kernel⟩
theorem met_SettingsAndProfileChangeOnlyWhereSaid :
    (∃ t, exec .linkLost ready = .next t) ∧ (∀ k, Instr.linkLost.kind = some k → False) ∧
    Instr.linkLost ≠ .chipReset ∧ (∀ a b v, Instr.linkLost ≠ .resetRelease a b v) ∧
    (∀ a k p, Instr.linkLost ≠ .foreignFrame a k p) ∧ (∀ b low, Instr.linkLost ≠ .byteArrival b low) ∧
    ∀ x, Instr.linkLost ≠ .storeEnd x := by
  refine ⟨⟨_, rfl⟩, fun k h => ?_, by decide, fun a b v h => ?_, fun a k p h => ?_, fun b low h => ?_, fun x h => ?_⟩ <;>
    cases h

/-! ## The invariants: each holds in a state that is not empty of what it speaks of, and a step is taken there -/

theorem met_Kept (s : State) (h : s.pending = []) : step s = .next { s with now := s.now + 1 } := by
  simp [step, h, State.tick]
theorem met_NoticeKeysStayDistinct :
    ({ ready with notices := [.move 0, .capture 0, .move 1] } : State).noticesDistinct := by
  unfold State.noticesDistinct
  decide
theorem met_RecallQueueStaysInForm :
    ((withRecalls [running [none], waiting .now]).claimsFit ∧
      (withRecalls [running [none], waiting .now]).recallsInForm ∧
      (withRecalls [running [none], waiting .now]).recallsOpen) ∧
    (∃ r ∈ (withRecalls [waiting .fire]).recalls, r.page = 0) ∧
    (let t : State := { withRecalls [waiting .fire] with now := 1 };
      step (withRecalls [waiting .fire]) = .next t ∧ ∃ r ∈ t.recalls, r.page = 0) :=
  have h : ∀ f : FaderIx, ((withRecalls [running [none], waiting .now]).claimOf f).isLane =
      ((withRecalls [running [none], waiting .now]).fader f).lane.enabled ∧
      (withRecalls [running [none], waiting .now]).stateOf f = .parked ∧
      (withRecalls [running [none], waiting .now]).claimOf f = .none := by decide +kernel
  ⟨⟨fun f => ⟨(h f).1, by simp [(h f).2, Claim.fits, Claim.isRecall]⟩, ⟨by decide, by decide⟩,
    met_RecallJoinsQueueAndMayStart.2.1.1⟩, ⟨waiting .fire, by decide, rfl⟩, rfl, ⟨waiting .fire, by decide, rfl⟩⟩

/-- One fader holds the only slot and another waits. -/
def served : State := { (fullPool.modRecord 0 fun r => { r with state := .waiting }) with queue := [0] }

theorem met_AdmissionQueueStaysExactAndServed : served.queueExact ∧ served.part = .ready ∧ served.poolSettled :=
  ⟨⟨by decide, by decide +kernel⟩, by decide, Or.inr (by decide +kernel)⟩
theorem met_UndrivenMotorsStayOff : ramping.motorsOff ∧ ramping.heatInRange ∧ ramping.capturesBounded := by
  unfold State.motorsOff State.heatInRange State.capturesBounded
  decide +kernel
theorem met_ClaimsStayFitForLaneAndState : busy.claimsFit := claimsFit_busy

/-- F0's lane moves along a segment; every other lane and every position is as at reset. -/
def automated : State := ready.modLane 0 fun l =>
  { l with queue := [⟨5, 500, .ramp⟩], value := some 0, segment := some ⟨0, 0, 5, 500⟩ }

theorem met_LanesAndPositionsStayInRange :
    automated.countInRange ∧ automated.lanesInForm ∧ automated.positionsInRange := by
  have h : ∀ f : FaderIx, ((automated.fader f).lane = (automated.fader 0).lane ∨ (automated.fader f).lane = Lane.reset) ∧
      (automated.fader f).motion.ramp = .none ∧ (automated.fader f).track = Fader.reset.track ∧
      (automated.fader f).record = Fader.reset.record ∧ (automated.fader f).motion.setpoint = 0 := by decide +kernel
  refine ⟨Nat.zero_le _, fun f => ?_, fun f => ?_, ?_, ?_, fun c e => (by cases e), ?_⟩
  · rcases (h f).1 with e | e <;> rw [e]
    · simp [automated, Lane.inForm, risingAfter, ready, State.reset, Lane.reset, State.modLane, State.modFader,
        State.fader, Fader.reset]
    · exact lane_inForm_reset
  · obtain ⟨-, h1, h2, h3, h4⟩ := h f
    simp [Fader.inRange, h1, h2, h3, h4, Fader.reset, FaderRecord.at]
  · unfold Settings.detentsInRange; decide +kernel
  · unfold Settings.detentsInRange; decide +kernel
  · decide +kernel
theorem inRange_default : Settings.default.inRange := by
  have hm : ∀ m : MeterIx, Settings.default.meters[m.val] = MeterSettings.default := by decide +kernel
  refine ⟨by decide, ?_, by decide, by decide, by decide, by decide, by decide, fun m => ?_, by decide, ?_, ?_⟩
  · unfold FaderSettings.inRange calInRange; decide +kernel
  · rw [hm]; simp [MeterSettings.inRange, MeterSettings.default]
  · unfold scaleInForm; decide +kernel
  · unfold scaleInForm; decide +kernel
theorem met_SettingsStayInRange :
    ready.settingsInRange ∧ ready.calibrationsInRange ∧ reviewed.calibrationsInRange := by
  have h : ∀ f : FaderIx, (reviewed.fader f).track.raw ≤ 4095 ∧ (reviewed.fader f).cal = none ∧
      ((reviewed.fader f).record.pendingCal = none ∨
        (reviewed.fader f).record.pendingCal = some ⟨210, 3800, 3590⟩) := by decide +kernel
  have hr : ∀ f : FaderIx, (ready.fader f).track.raw ≤ 4095 ∧ (ready.fader f).cal = none ∧
      (ready.fader f).record.pendingCal = none := by decide +kernel
  refine ⟨⟨inRange_default, inRange_default, fun c e => by cases e⟩, fun f => ?_, fun f => ?_⟩
  · obtain ⟨h1, h2, h3⟩ := hr f
    exact ⟨h1, fun c e => (by rw [h2] at e; cases e), fun c e => (by rw [h3] at e; cases e)⟩
  · obtain ⟨h1, h2, h3 | h3⟩ := h f
    · exact ⟨h1, fun c e => (by rw [h2] at e; cases e), fun c e => (by rw [h3] at e; cases e)⟩
    · exact ⟨h1, fun c e => (by rw [h2] at e; cases e),
        fun c e => (by rw [h3] at e; cases e; unfold calInRange; decide)⟩
theorem met_GroupsStayDisjointAndLeadTruly : grouped.claimsFit ∧ grouped.groupsDisjoint ∧ grouped.leadsTrue := by
  have hc : ∀ f : FaderIx, (grouped.claimOf f).isLane = (grouped.fader f).lane.enabled ∧
      (grouped.stateOf f = .travel ∧ grouped.claimOf f = .follow 0 ∨
        grouped.stateOf f = .parked ∧ grouped.claimOf f = .none) := by decide +kernel
  have hg : ∀ g : GroupIx, grouped.group g = none ∨ g = 0 := by decide +kernel
  have h0 : grouped.group 0 = some ⟨0, [⟨1, 5, false, false⟩], false⟩ := by decide +kernel
  refine ⟨fun f => ?_, ⟨fun g r e => ?_, fun g g' r r' n e e' => ?_⟩, fun g r e => ?_⟩
  · obtain ⟨h1, h2 | h2⟩ := hc f <;> refine ⟨h1, ?_⟩ <;> simp [h2, Claim.fits, Claim.isRecall]
  · rcases hg g with h | rfl
    · rw [h] at e; cases e
    · rw [h0] at e; cases e; decide
  · rcases hg g with h | rfl
    · rw [h] at e; cases e
    · rcases hg g' with h | rfl
      · rw [h] at e'; cases e'
      · exact absurd rfl n
  · rcases hg g with h | rfl
    · rw [h] at e; cases e
    · rw [h0] at e; cases e; decide +kernel
theorem met_MetersStayInRangeAndPairsShared : metered.metersInRange ∧ metered.pairsShared := by
  unfold State.metersInRange State.pairsShared Meter.inRange
  decide +kernel

/-! ## Position changes and groups -/

/-- F0 PARKED at its hold target 0, its claim kept. -/
def drifting (heat : Nat) : State := (inState .parked (.lane false)).modHeat 0 fun h => { h with heat := heat }

/-- G0 with master F0 TOUCHED and members F1 to F3, leading; F1 PARKED without a claim, F2 following, F3 under a DIRECT
claim. -/
def leader : State :=
  { ((inState .touched .none).modRecord 2 fun r => { r with claim := .follow 0, state := .travel }).modRecord 3 fun r =>
      { r with claim := .direct, state := .travel } with
    groups := ready.groups.set 0 (some ⟨0, [⟨1, 5, false, false⟩, ⟨2, -5, true, true⟩, ⟨3, 0, false, false⟩], true⟩) }

theorem groupsDisjoint_leader : leader.groupsDisjoint := by
  have hg : ∀ g : GroupIx, leader.group g = none ∨ g = 0 := by decide +kernel
  have h0 : leader.group 0 =
      some ⟨0, [⟨1, 5, false, false⟩, ⟨2, -5, true, true⟩, ⟨3, 0, false, false⟩], true⟩ := by decide +kernel
  refine ⟨fun g r e => ?_, fun g g' r r' n e e' => ?_⟩
  · rcases hg g with h | rfl
    · rw [h] at e; cases e
    · rw [h0] at e; cases e; decide
  · rcases hg g with h | rfl
    · rw [h] at e; cases e
    · rcases hg g' with h | rfl
      · rw [h] at e'; cases e'
      · exact absurd rfl n

/-- A sample near the hold target and beyond the hold window; a position change of a leading master with a member of each
sort. -/
theorem met_PositionChangesCorrectDriftAndLeadMembers :
    (∀ h ∈ [0, 3000], let s := drifting h;
      s.part = .ready ∧ s.stateOf 0 = .parked ∧ (s.fader 0).heat.samples < 20 ∧ (s.fader 0).track.first = false ∧
        s.masterOf 0 = none ∧ s.recallsOpen ∧ 1 ≤ (s.config 0).speedLimit) ∧
    (∀ raw ∈ [200#12, 210#12, 300#12], classify (ready.config 0).calLow (ready.config 0).calHigh raw.toNat = .inWindow) ∧
    ((ready.config 0).holdWindow < Sys2Proof.dist (mapRaw 200 3895 300) 0 ∧
      Sys2Proof.dist (mapRaw 200 3895 210) 0 ≤ (ready.config 0).holdWindow) ∧
    (leader.part = .ready ∧ leader.stateOf 0 = .touched ∧ (leader.fader 0).heat.samples < 20 ∧
      (leader.fader 0).track.first = false ∧ leader.masterOf 0 = some 0 ∧ leader.groupsDisjoint ∧ leader.recallsOpen ∧
      mapRaw 200 3895 300 ≠ leader.posOf 0 ∧ leader.link.lost = false ∧ (leader.stateOf 1).takesClaims = true ∧
      leader.claimOf 1 = .none ∧ leader.claimOf 2 = .follow 0 ∧ leader.claimOf 3 = .direct) := by
  refine ⟨?_, by decide +kernel, by decide +kernel, by decide, by decide, by decide, by decide, by decide +kernel,
    groupsDisjoint_leader, (fun _ h => by cases h), by decide +kernel⟩
  intro h hh
  simp only [List.mem_cons, List.not_mem_nil, or_false] at hh
  rcases hh with rfl | rfl <;>
    exact ⟨by decide, by decide, by decide, by decide, by decide +kernel, (fun _ h => by cases h), by decide⟩

theorem groupsDisjoint_of_leader {s : State} (h : s.groups = leader.groups) : s.groupsDisjoint := by
  have e := groupsDisjoint_leader
  unfold State.groupsDisjoint State.group at e ⊢
  rw [h]; exact e
theorem poolSettled_of_queue {s : State} (h : s.queue = []) : s.poolSettled := Or.inl h

/-- One member handed its follow target in each state, near and far; the lead's end, with its retrim deferred and not. -/
theorem met_PositionChangesCorrectDriftAndLeadMembers_member :
    (∀ st ∈ [FaderState.parked, .waiting, .travel, .settle, .rest], ∀ c ∈ [Claim.none, .follow 0],
      let s := { leader.modRecord 1 fun r => { r with state := st, claim := c } with now := 1 };
      s.leading 0 = true ∧ (s.stateOf 1).takesClaims = true ∧ s.claimOf 1 = c ∧ s.justGranted 1 = false ∧
        (s.memberOf 1).isSome = true ∧ (s.fader 1).record.planned = none ∧ s.heatOf 1 < s.settings.heatTrip ∧
        followTarget 500 5 ≠ s.targetOf 1 ∧ followTarget 0 2 ≠ s.targetOf 1 ∧
        ¬Sys2Proof.dist (s.posOf 1) (followTarget 500 5) ≤ (s.config 1).arrivalWindow ∧
        Sys2Proof.dist (s.posOf 1) (followTarget 0 2) ≤ (s.config 1).arrivalWindow ∧ s.queue = [] ∧
        s.groups = leader.groups) ∧
    (leader.masterOf 0 = some 0 ∧ (leader.group 0).isSome = true ∧ leader.meetsLead 0 = true ∧
      (leader.modRecord 0 fun r => { r with state := .parked }).meetsLead 0 = false) ∧
    (∀ f ∈ [(1 : FaderIx), 2], let s := leader.modRecord f fun r => { r with state := .parked, claim := .follow 0 };
      s.claimOf f = .follow 0 ∧ s.stateOf f = .parked ∧ (s.memberOf f).isSome = true ∧ s.masterOf f = none) ∧
    ((leader.claimOf 2).isFollow = true ∧ (leader.claimOf 3).isFollow = false ∧ (leader.memberOf 3).isSome = true ∧
      (Claim.recall 7 0).isRecall = true ∧ (Claim.lane true).isLane = true) := by decide +kernel

/-- A leading master under a DIRECT claim in each moving state. -/
theorem met_PositionChangesCorrectDriftAndLeadMembers_direct :
    ∀ st ∈ [FaderState.waiting, .travel, .settle], let s := leader.modRecord 0 fun r => { r with state := st, claim := .direct };
      s.claimOf 0 = .direct ∧ (s.stateOf 0).moving = true ∧ (s.fader 0).fault.stallRun = none ∧
        (s.fader 0).motion.settleCount < 15 ∧ s.masterOf 0 = some 0 ∧ s.leading 0 = true ∧ s.groups = leader.groups := by
  decide +kernel

theorem groupsDisjoint_of_leader_led {s : State} (b : Bool)
    (h : s.groups = leader.groups.map fun o => o.map fun r => { r with leading := b }) : s.groupsDisjoint := by
  have hs : ∀ g, s.group g = (leader.group g).map fun r => { r with leading := b } := by
    intro g; simp [State.group, h]
  refine ⟨fun g r e => ?_, fun g g' r r' n e e' => ?_⟩
  · rw [hs] at e
    obtain ⟨x, hx, rfl⟩ := Option.map_eq_some_iff.mp e
    exact groupsDisjoint_leader.1 g x hx
  · rw [hs] at e e'
    obtain ⟨x, hx, rfl⟩ := Option.map_eq_some_iff.mp e
    obtain ⟨x', hx', rfl⟩ := Option.map_eq_some_iff.mp e'
    exact groupsDisjoint_leader.2 g g' x x' n hx hx'

/-- A STOP that halts a master's recall entry, and a LANE-DISABLE at a master that leads and at one that does not. -/
theorem met_PositionChangesCorrectDriftAndLeadMembers_master :
    (let s : State := { (leader.modRecord 0 fun r => { r with state := .travel, claim := .recall 7 0 }) with
        groups := leader.groups.map fun o => o.map fun r => { r with leading := false }, recalls := [running [none]] };
      s.hears = true ∧ s.masterOf 0 = some 0 ∧ s.leading 0 = false ∧ s.claimOf 0 = .recall (running [none]).tag 0 ∧
        (running [none]).run = some ⟨0, 60, 3000, [none]⟩ ∧ (s.stateOf 0).takesClaims = true ∧
        leaves (.stop .addressed 0) s (fun t => decide ((t.memberOf 3).map (fun y => y.2.2) = some ⟨3, 0, false, false⟩) &&
          decide ((t.memberOf 2).map (fun y => y.2.2) = some ⟨2, -5, true, true⟩)) = true) ∧
    (∀ st ∈ [FaderState.touched, .parked],
      let s : State := { ((leader.modRecord 0 fun r => { r with state := st, claim := .lane (decide (st = .touched)) }).modLane 0
          fun l => { l with enabled := true }) with
        groups := leader.groups.map fun o => o.map fun r => { r with leading := decide (st = .touched) } };
      s.hears = true ∧ s.masterOf 0 = some 0 ∧ s.leading 0 = decide (s.stateOf 0 = .touched) ∧
        (s.claimOf 0).isLane = true ∧ (s.fader 0).lane.enabled = true ∧ (s.stateOf 0).phase = none ∧
        leaves (.laneDisable .addressed 0) s (fun t =>
          decide ((t.memberOf 1).map (fun y => y.2.2) = some ⟨1, 0, false, false⟩)) = true) := by decide +kernel

end Sys2Proof.Tests
end

section
/-! # Track sensing and touch: reasoning rules

What the shared operations of Fader Control, the Group Follower and the Recall Engine leave alone: the recalls, the
faders, the admission queue and the notices of a fader they do not act on. -/

namespace Sys2Proof.Machine

/-! ## Operations of the Group Follower change the groups only -/

/-- Two states that differ in their groups at most. -/
def State.SameButGroups (s t : State) : Prop := ∃ g, t = { s with groups := g }

theorem State.SameButGroups.refl (s : State) : s.SameButGroups s := ⟨s.groups, rfl⟩

theorem State.SameButGroups.trans {s t u : State} (h : s.SameButGroups t) (k : t.SameButGroups u) :
    s.SameButGroups u := by
  obtain ⟨g, rfl⟩ := h
  obtain ⟨g', rfl⟩ := k
  exact ⟨g', rfl⟩

theorem State.SameButGroups.each {g : FaderIx → State → State} (h : ∀ m (s : State), s.SameButGroups (g m s))
    (l : List FaderIx) (s : State) : s.SameButGroups (s.each l g) := by
  induction l generalizing s with
  | nil => exact .refl s
  | cons m l ih => exact (h m s).trans (ih (g m s))

theorem State.sameButGroups_modMember (s : State) (f : FaderIx) (h : Member → Member) :
    s.SameButGroups (s.modMember f h) := ⟨_, rfl⟩

theorem State.sameButGroups_retrim (s : State) (f : FaderIx) : s.SameButGroups (s.retrim f) := by
  unfold State.retrim
  split
  · exact s.sameButGroups_modMember f _
  · exact .refl s

theorem State.sameButGroups_callRetrim (s : State) (f : FaderIx) : s.SameButGroups (s.callRetrim f) := by
  unfold State.callRetrim
  split
  · exact s.sameButGroups_modMember f _
  · exact s.sameButGroups_retrim f

theorem State.sameButGroups_deferredRetrim (s : State) (f : FaderIx) : s.SameButGroups (s.deferredRetrim f) := by
  unfold State.deferredRetrim
  split
  · split
    · exact s.sameButGroups_retrim f
    · exact .refl s
  · exact .refl s

/-- The end of a claim reaches the Group Follower, which retrims. -/
theorem State.sameButGroups_claimEnded (s : State) (f : FaderIx) (c : Claim) : s.SameButGroups (s.claimEnded f c) := by
  match c with
  | .none => exact .refl s
  | .direct => exact s.sameButGroups_callRetrim f
  | .follow _ => exact s.sameButGroups_deferredRetrim f
  | .recall _ _ => exact (s.sameButGroups_callRetrim f).trans (.each (fun m t => t.sameButGroups_callRetrim m) _ _)
  | .lane _ => exact (s.sameButGroups_callRetrim f).trans (.each (fun m t => t.sameButGroups_callRetrim m) _ _)

theorem State.SameButGroups.fader {s t : State} (h : s.SameButGroups t) (f : FaderIx) : t.fader f = s.fader f := by
  obtain ⟨g, rfl⟩ := h; rfl
theorem State.SameButGroups.notices {s t : State} (h : s.SameButGroups t) : t.notices = s.notices := by
  obtain ⟨g, rfl⟩ := h; rfl
theorem State.SameButGroups.recalls {s t : State} (h : s.SameButGroups t) : t.recalls = s.recalls := by
  obtain ⟨g, rfl⟩ := h; rfl
theorem State.SameButGroups.queue {s t : State} (h : s.SameButGroups t) : t.queue = s.queue := by
  obtain ⟨g, rfl⟩ := h; rfl

@[simp] theorem State.claimEnded_fader (s : State) (f : FaderIx) (c : Claim) (f' : FaderIx) :
    (s.claimEnded f c).fader f' = s.fader f' := (s.sameButGroups_claimEnded f c).fader f'
@[simp] theorem State.claimEnded_notices (s : State) (f : FaderIx) (c : Claim) :
    (s.claimEnded f c).notices = s.notices := (s.sameButGroups_claimEnded f c).notices
@[simp] theorem State.claimEnded_recalls (s : State) (f : FaderIx) (c : Claim) :
    (s.claimEnded f c).recalls = s.recalls := (s.sameButGroups_claimEnded f c).recalls
@[simp] theorem State.claimEnded_queue (s : State) (f : FaderIx) (c : Claim) :
    (s.claimEnded f c).queue = s.queue := (s.sameButGroups_claimEnded f c).queue
@[simp] theorem State.callRetrim_fader (s : State) (f f' : FaderIx) :
    (s.callRetrim f).fader f' = s.fader f' := (s.sameButGroups_callRetrim f).fader f'
@[simp] theorem State.callRetrim_notices (s : State) (f : FaderIx) :
    (s.callRetrim f).notices = s.notices := (s.sameButGroups_callRetrim f).notices


/-! ## Tests and reports change notices only -/

@[simp] theorem State.moveTest_fader (s : State) (f f' : FaderIx) : (s.moveTest f).fader f' = s.fader f' := by
  unfold State.moveTest; split <;> rfl
@[simp] theorem State.moveTest_recalls (s : State) (f : FaderIx) : (s.moveTest f).recalls = s.recalls := by
  unfold State.moveTest; split <;> rfl
@[simp] theorem State.moveTest_queue (s : State) (f : FaderIx) : (s.moveTest f).queue = s.queue := by
  unfold State.moveTest; split <;> rfl
@[simp] theorem State.moveTest_groups (s : State) (f : FaderIx) : (s.moveTest f).groups = s.groups := by
  unfold State.moveTest; split <;> rfl
@[simp] theorem State.entryTest_fader (s : State) (f : FaderIx) (q : Bool) (f' : FaderIx) :
    (s.entryTest f q).fader f' = s.fader f' := by
  unfold State.entryTest; split <;> simp
@[simp] theorem State.entryTest_recalls (s : State) (f : FaderIx) (q : Bool) :
    (s.entryTest f q).recalls = s.recalls := by
  unfold State.entryTest; split <;> simp
@[simp] theorem State.entryTest_queue (s : State) (f : FaderIx) (q : Bool) : (s.entryTest f q).queue = s.queue := by
  unfold State.entryTest; split <;> simp
@[simp] theorem State.entryTest_groups (s : State) (f : FaderIx) (q : Bool) :
    (s.entryTest f q).groups = s.groups := by
  unfold State.entryTest; split <;> simp
@[simp] theorem State.reportEnd_fader (s : State) (f : FaderIx) (o : Outcome) (f' : FaderIx) :
    (s.reportEnd f o).fader f' = s.fader f' := by
  unfold State.reportEnd; split <;> (try split) <;> simp
@[simp] theorem State.reportEnd_queue (s : State) (f : FaderIx) (o : Outcome) :
    (s.reportEnd f o).queue = s.queue := by
  unfold State.reportEnd; split <;> (try split) <;> simp

/-- The end of a claim other than RECALL leaves the recalls alone. -/
theorem State.reportEnd_recalls {s : State} {f : FaderIx} (o : Outcome) (h : (s.claimOf f).isRecall = false) :
    (s.reportEnd f o).recalls = s.recalls := by
  unfold State.reportEnd
  split <;> simp_all [Claim.isRecall]
  split <;> rfl

@[simp] theorem State.disableLane_recalls (s : State) (f : FaderIx) (r : Option LaneReason) :
    (s.disableLane f r).recalls = s.recalls := by
  unfold State.disableLane; split <;> (try split) <;> rfl

/-! ## Queue and notices through updates of one fader's record, motion, faults and calibration -/

@[simp] theorem State.clearClaim_notices (s : State) (f : FaderIx) : (s.clearClaim f).notices = s.notices := rfl
@[simp] theorem State.holdHere_notices (s : State) (f : FaderIx) : (s.holdHere f).notices = s.notices := rfl
@[simp] theorem State.layRamp_queue (s : State) (f : FaderIx) (n : Nat) : (s.layRamp f n).queue = s.queue := rfl
@[simp] theorem State.modFault_queue (s : State) (f : FaderIx) (g : FaultItems → FaultItems) :
    (s.modFault f g).queue = s.queue := rfl
@[simp] theorem State.setCal_queue (s : State) (f : FaderIx) (c : Option CalRun) : (s.setCal f c).queue = s.queue := rfl

/-! ## The recalls through the operations that write no outcome -/

@[simp] theorem State.clearClaim_recalls (s : State) (f : FaderIx) : (s.clearClaim f).recalls = s.recalls := rfl
@[simp] theorem State.holdHere_recalls (s : State) (f : FaderIx) : (s.holdHere f).recalls = s.recalls := rfl
@[simp] theorem State.layRamp_recalls (s : State) (f : FaderIx) (n : Nat) : (s.layRamp f n).recalls = s.recalls := rfl
@[simp] theorem State.relayRamp_recalls (s : State) (f : FaderIx) : (s.relayRamp f).recalls = s.recalls := by
  unfold State.relayRamp; split <;> rfl
@[simp] theorem State.endCalibration_recalls (s : State) (f : FaderIx) (o : CalOutcome) (n : Option Int) :
    (s.endCalibration f o n).recalls = s.recalls := by
  unfold State.endCalibration; split <;> rfl
@[simp] theorem State.trip_recalls (s : State) (f : FaderIx) (q : Bool) : (s.trip f q).recalls = s.recalls := by
  unfold State.trip; split <;> (try split) <;> simp
@[simp] theorem State.tripTest_recalls (s : State) (f : FaderIx) (q : Bool) :
    (s.tripTest f q).recalls = s.recalls := by
  unfold State.tripTest; split <;> simp
@[simp] theorem State.enterWaiting_recalls (s : State) (f : FaderIx) (q : Bool) :
    (s.enterWaiting f q).recalls = s.recalls := by simp [State.enterWaiting]
@[simp] theorem State.seek_recalls (s : State) (f : FaderIx) (t : Nat) (q : Bool) :
    (s.seek f t q).recalls = s.recalls := by
  simp only [State.seek]; split <;> simp
@[simp] theorem State.memberLeadEnd_recalls (s : State) (g : GroupIx) (f : FaderIx) :
    (s.memberLeadEnd g f).recalls = s.recalls := by
  unfold State.memberLeadEnd
  split
  · rename_i h
    simp [State.reportEnd_recalls, h.1, Claim.isRecall]
  · rfl
@[simp] theorem State.memberLeadEnd_queue (s : State) (g : GroupIx) (f : FaderIx) :
    (s.memberLeadEnd g f).queue = s.queue := by
  unfold State.memberLeadEnd; split <;> simp [State.clearClaim]

end Sys2Proof.Machine
end

section
namespace Sys2Proof.Machine

/-! ## The lead of a group: what its end can touch -/

/-- A property kept by every step of a walk along the faders holds at its end. -/
theorem State.each_keeps {P : State → Prop} {g : FaderIx → State → State} (h : ∀ m t, P t → P (g m t))
    (l : List FaderIx) {s : State} (hs : P s) : P (s.each l g) := by
  induction l generalizing s with
  | nil => exact hs
  | cons m l ih => exact ih (h m s hs)

/-- The evaluation of a lead writes the leading item and ends FOLLOW claims of members, and does nothing else. -/
theorem State.evalLead_keeps {P : State → Prop} {s : State} (f : FaderIx) (hs : P s)
    (hg : ∀ t g r, P t → P (t.setGroup g r)) (hm : ∀ t g m, P t → P (t.memberLeadEnd g m)) : P (s.evalLead f) := by
  unfold State.evalLead
  split
  · exact hs
  · split
    · exact hs
    · dsimp only
      split
      · exact State.each_keeps (fun _ t ht => hm t _ _ ht) _ (hg _ _ _ hs)
      · exact hg _ _ _ hs

@[simp] theorem State.evalLead_recalls (s : State) (f : FaderIx) : (s.evalLead f).recalls = s.recalls :=
  State.evalLead_keeps (P := fun t => t.recalls = s.recalls) f rfl (fun _ _ _ h => h) fun _ _ _ h => by simpa using h
@[simp] theorem State.evalLead_queue (s : State) (f : FaderIx) : (s.evalLead f).queue = s.queue :=
  State.evalLead_keeps (P := fun t => t.queue = s.queue) f rfl (fun _ _ _ h => h) fun _ _ _ h => by simpa using h

/-- A fader of which the record alone has changed, and not its state. -/
def Fader.SameButRecord (x y : Fader) : Prop :=
  ∃ r : FaderRecord, r.state = x.record.state ∧ y = { x with record := r }

theorem Fader.SameButRecord.refl (x : Fader) : x.SameButRecord x := ⟨x.record, rfl, rfl⟩
theorem Fader.SameButRecord.trans {x y z : Fader} (h : x.SameButRecord y) (k : y.SameButRecord z) :
    x.SameButRecord z := by
  obtain ⟨r, hr, rfl⟩ := h
  obtain ⟨r', hr', rfl⟩ := k
  exact ⟨r', hr'.trans hr, rfl⟩

theorem State.modRecord_sameButRecord (s : State) (f : FaderIx) {g : FaderRecord → FaderRecord}
    (hg : ∀ r, (g r).state = r.state) (f' : FaderIx) : (s.fader f').SameButRecord ((s.modRecord f g).fader f') := by
  by_cases h : f' = f
  · subst h
    exact ⟨_, hg _, State.modRecord_fader _ _ _⟩
  · rw [s.modRecord_fader_ne _ _ h]
    exact .refl _

theorem State.clearClaim_sameButRecord (s : State) (f f' : FaderIx) :
    (s.fader f').SameButRecord ((s.clearClaim f).fader f') := s.modRecord_sameButRecord f (by intro r; rfl) f'

theorem State.memberLeadEnd_sameButRecord (s : State) (g : GroupIx) (m f : FaderIx) :
    (s.fader f).SameButRecord ((s.memberLeadEnd g m).fader f) := by
  unfold State.memberLeadEnd
  split
  · rw [State.claimEnded_fader, ← State.reportEnd_fader s m .arrived f]
    exact (State.clearClaim_sameButRecord _ m f).trans (State.modRecord_sameButRecord _ m (by intro r; rfl) f)
  · exact .refl _

/-- The evaluation of a lead changes no fader but in its record, and no state. -/
theorem State.evalLead_sameButRecord (s : State) (x f : FaderIx) :
    (s.fader f).SameButRecord ((s.evalLead x).fader f) :=
  State.evalLead_keeps (P := fun t => (s.fader f).SameButRecord (t.fader f)) x (.refl _) (fun _ _ _ h => h)
    fun t g m h => h.trans (t.memberLeadEnd_sameButRecord g m f)

/-! ## A fader that an operation spares -/

/-- From `s` to `t` nothing happens to fader `f`: its items stay, and so do its pending notices. -/
structure State.Spares (f : FaderIx) (s t : State) : Prop where
  fader : t.fader f = s.fader f
  notices : ∀ n ∈ s.notices, ∀ k, n.key = .fader f k → n ∈ t.notices

namespace State.Spares
variable {f : FaderIx} {s t u : State}

theorem refl (f : FaderIx) (s : State) : Spares f s s := ⟨rfl, fun _ h _ _ => h⟩

theorem trans (h : Spares f s t) (k : Spares f t u) : Spares f s u :=
  ⟨k.fader.trans h.fader, fun n hn i hi => k.notices n (h.notices n hn i hi) i hi⟩

/-- What changes neither faders nor notices spares every fader. -/
theorem of_eq (hf : t.fader f = s.fader f) (hn : t.notices = s.notices) : Spares f s t :=
  ⟨hf, fun _ h _ _ => hn ▸ h⟩

theorem raise (s : State) {n : Notice} (h : ∀ k, n.key ≠ .fader f k) : Spares f s (s.raise n) :=
  ⟨rfl, fun _ hm k hk => mem_raiseInto_of_ne hm fun e => h k (e ▸ hk)⟩

theorem modFader (s : State) {x : FaderIx} (g : Fader → Fader) (h : f ≠ x) : Spares f s (s.modFader x g) :=
  of_eq (s.fader_modFader_ne g h) rfl

theorem modRecord (s : State) {x : FaderIx} (g : FaderRecord → FaderRecord) (h : f ≠ x) :
    Spares f s (s.modRecord x g) := modFader s _ h

theorem clearClaim (s : State) {x : FaderIx} (h : f ≠ x) : Spares f s (s.clearClaim x) := modRecord s _ h

theorem goTo (s : State) {x : FaderIx} (st : FaderState) (h : f ≠ x) : Spares f s (s.goTo x st) :=
  of_eq (s.goTo_fader_ne st h) (s.goTo_notices x st)

theorem claimEnded (s : State) (x : FaderIx) (c : Claim) : Spares f s (s.claimEnded x c) :=
  of_eq (by simp) (by simp)

theorem writeOutcome (s : State) (tag i : Nat) (o : Outcome) : Spares f s (s.writeOutcome tag i o) :=
  of_eq (by simp) (by simp)

theorem reportEnd (s : State) {x : FaderIx} (o : Outcome) (h : f ≠ x) : Spares f s (s.reportEnd x o) := by
  have other : ∀ k k', NoticeKey.fader x k ≠ .fader f k' := fun _ _ e => h (NoticeKey.fader.inj e).1.symm
  unfold State.reportEnd
  split
  · exact refl f s
  · exact raise s (other _)
  · exact writeOutcome s _ _ _
  · exact refl f s
  · split
    · exact raise s (other _)
    · exact refl f s

/-- The end of a lead acts on a PARKED member under FOLLOW only. -/
theorem memberLeadEnd (s : State) (g : GroupIx) (m : FaderIx)
    (h : (s.claimOf f).isFollow = false ∨ s.stateOf f ≠ .parked) : Spares f s (s.memberLeadEnd g m) := by
  unfold State.memberLeadEnd
  split
  · rename_i hm
    have hne : f ≠ m := by
      rintro rfl
      rcases h with h | h
      · rw [hm.1] at h; cases h
      · exact h hm.2
    exact (((reportEnd s _ hne).trans (clearClaim _ hne)).trans (modRecord _ _ hne)).trans (claimEnded _ _ _)
  · exact refl f s

theorem evalLead (s : State) (x : FaderIx) (h : (s.claimOf f).isFollow = false ∨ s.stateOf f ≠ .parked) :
    Spares f s (s.evalLead x) :=
  State.evalLead_keeps (P := fun t => Spares f s t) x (refl f s) (fun _ _ _ k => k.trans (of_eq rfl rfl))
    fun t g m k => k.trans (memberLeadEnd t g m (by simpa only [State.claimOf, State.stateOf, k.fader] using h))

/-- A grant acts on a fader in WAITING or CAL-WAIT only. -/
theorem grantTo (s : State) (x : FaderIx) (h : (s.stateOf f).queued = false) : Spares f s (s.grantTo x) := by
  refine of_eq ?_ (s.grantTo_notices x)
  by_cases hx : f = x
  · subst hx
    simp only [State.grantTo]
    split
    · rename_i e
      rw [show s.stateOf f = .waiting from e] at h
      cases h
    · rename_i e
      rw [show s.stateOf f = .calibrating .calWait from e] at h
      cases h
    · rfl
  · exact s.grantTo_fader_ne hx

theorem grantAlong (l : List FaderIx) (s : State) (h : (s.stateOf f).queued = false) :
    Spares f s (Machine.grantAlong l s) := by
  induction l generalizing s with
  | nil => exact refl f s
  | cons x l ih =>
    unfold Machine.grantAlong
    split
    · have hx := grantTo s x h
      exact hx.trans (ih _ (by rwa [State.stateOf, hx.fader]))
    · exact refl f s

theorem grant (s : State) (h : (s.stateOf f).queued = false) : Spares f s s.grant := grantAlong _ s h

end State.Spares

end Sys2Proof.Machine
end

section
namespace Sys2Proof.Machine

/-! ## What the Recall Engine's hand-outs can do to a fader -/

/-- A fader in such a state is neither handed a claim nor granted a slot: TOUCHED, FAULTED, CAL-DOWN, CAL-UP, CAL-REVIEW. -/
def FaderState.aloof (st : FaderState) : Bool := !st.takesClaims && !st.queued

/-- PARKED, WAITING, TRAVEL or REST: where a fader stays that is handed a claim or granted a slot. -/
def FaderState.seeking (st : FaderState) : Bool := st.takesClaims && decide (st ≠ .settle)

/-- The setpoint stands at the position, and with the motor undriven so do all motion items (R41, R42). -/
def Fader.levelled (x : Fader) : Prop :=
  x.motion.setpoint = x.track.pos ∧ (x.record.state.driven = false → x.motion = Motion.at x.track.pos)

/-- What a fader's items keep while claims are handed out and slots granted. -/
structure Fader.Permits (x y : Fader) : Prop where
  track : y.track = x.track
  takes : x.record.state.takesClaims = true → y.record.state.takesClaims = true
  seeking : x.record.state.seeking = true → y.record.state.seeking = true
  levelled : x.levelled → y.levelled

namespace Fader.Permits
variable {x y z : Fader}

theorem refl (x : Fader) : x.Permits x := ⟨rfl, id, id, id⟩

theorem trans (h : x.Permits y) (k : y.Permits z) : x.Permits z :=
  ⟨k.track.trans h.track, k.takes ∘ h.takes, k.seeking ∘ h.seeking, k.levelled ∘ h.levelled⟩

theorem of_eq (h : y = x) : x.Permits y := h ▸ refl x

/-- A change outside track, motion and state. -/
theorem of_items (ht : y.track = x.track) (hm : y.motion = x.motion) (hs : y.record.state = x.record.state) :
    x.Permits y :=
  ⟨ht, by simp [hs], by simp [hs], by simp [Fader.levelled, ht, hm, hs]⟩

theorem of_sameButRecord (h : x.SameButRecord y) : x.Permits y := by
  obtain ⟨r, hr, rfl⟩ := h
  exact of_items rfl rfl hr

end Fader.Permits

/-- A transition into PARKED, WAITING, TRAVEL or REST. -/
theorem State.goTo_permits (s : State) (f : FaderIx) {st : FaderState} (h : st.seeking = true) :
    (s.fader f).Permits ((s.goTo f st).fader f) := by
  have takes : st.takesClaims = true := (Bool.and_eq_true _ _ ▸ h).1
  rw [s.goTo_fader]
  refine ⟨rfl, fun _ => takes, fun _ => h, fun hl => ?_⟩
  cases hd : st.driven
  · simp [Fader.levelled, Motion.at, hl.1]
  · simp [Fader.levelled, hl.1, hd]

/-- A ramp laid in a driven state from the setpoint or the position. -/
theorem State.layRamp_permits (s : State) (f : FaderIx) {n : Nat} (hd : (s.stateOf f).driven = true)
    (hn : n = (s.fader f).motion.setpoint ∨ n = s.posOf f) : (s.fader f).Permits ((s.layRamp f n).fader f) := by
  rw [State.layRamp_fader]
  refine ⟨rfl, id, id, fun hl => ⟨?_, fun h => absurd (hd.symm.trans h) (by decide)⟩⟩
  rcases hn with rfl | rfl
  · exact hl.1
  · rfl

/-- A slot granted to a WAITING fader: TRAVEL, the ramp laid from the position (R43, R60). -/
theorem State.grantTo_waiting (s : State) {f : FaderIx} (h : s.stateOf f = .waiting) :
    ∃ m : Motion, m.setpoint = s.posOf f ∧ (s.grantTo f).fader f =
      { s.fader f with record := { (s.fader f).record with state := .travel }, motion := m } := by
  have h' : (s.leaveQueue f).stateOf f = .waiting := h
  simp only [State.grantTo, h', State.modMotion_fader, State.layRamp_fader, State.goTo_fader, State.fader_leaveQueue]
  exact ⟨_, rfl, rfl⟩

/-- A slot granted in CAL-WAIT: CAL-DOWN, the setpoint where it was (R82). -/
theorem State.grantTo_calWait (s : State) {f : FaderIx} (h : s.stateOf f = .calibrating .calWait) :
    ∃ (m : Motion) (y : FaultItems) (c : Option CalRun), m.setpoint = (s.fader f).motion.setpoint ∧
      (s.grantTo f).fader f = { s.fader f with
        record := { (s.fader f).record with state := .calibrating .calDown }, motion := m, fault := y, cal := c } := by
  have h' : (s.leaveQueue f).stateOf f = .calibrating .calWait := h
  simp only [State.grantTo, h', State.setCal_fader, State.modFault_fader, State.fader_leaveQueue,
    State.enterCalPhase_fader _ f (p := .calDown) rfl]
  exact ⟨{ (s.fader f).motion with drive := CalPhase.calDown.drive }, _, _, rfl, rfl⟩

/-- From `s` to `t` claims may have been handed out and slots granted: a fader out of their reach is spared, and any
other keeps what `Fader.Permits` names. -/
structure State.HandsOut (f : FaderIx) (s t : State) : Prop where
  spares : (s.stateOf f).aloof = true → Spares f s t
  permits : (s.fader f).Permits (t.fader f)

namespace State.HandsOut
variable {f : FaderIx} {s t u : State}

theorem of_spares (h : Spares f s t) : HandsOut f s t := ⟨fun _ => h, .of_eq h.fader⟩

theorem refl (f : FaderIx) (s : State) : HandsOut f s s := of_spares (.refl f s)

theorem trans (h : HandsOut f s t) (k : HandsOut f t u) : HandsOut f s u where
  spares ha := (h.spares ha).trans (k.spares (by rwa [State.stateOf, (h.spares ha).fader]))
  permits := h.permits.trans k.permits

theorem takes (h : HandsOut f s t) : (s.stateOf f).takesClaims = true → (t.stateOf f).takesClaims = true :=
  h.permits.takes

/-- A fader that takes claims is within reach. -/
theorem of_takes (ht : (s.stateOf f).takesClaims = true) (h : (s.fader f).Permits (t.fader f)) : HandsOut f s t :=
  ⟨fun ha => by simp [FaderState.aloof, ht] at ha, h⟩

theorem evalLead (s : State) (x : FaderIx) : HandsOut f s (s.evalLead x) where
  spares ha := .evalLead s x (.inr fun e => by rw [e] at ha; cases ha)
  permits := .of_sameButRecord (s.evalLead_sameButRecord x f)

theorem grantTo (s : State) (x : FaderIx) : HandsOut f s (s.grantTo x) := by
  by_cases hq : (s.stateOf f).queued = true
  case neg => exact of_spares (.grantTo s x (by simpa using hq))
  refine ⟨fun ha => by simp [FaderState.aloof, hq] at ha, ?_⟩
  by_cases hx : f = x
  case neg => exact .of_eq (s.grantTo_fader_ne hx)
  subst hx
  cases hs : s.stateOf f with
  | waiting =>
    obtain ⟨m, hm, e⟩ := s.grantTo_waiting hs
    rw [e]
    exact ⟨rfl, fun _ => rfl, fun _ => rfl, fun _ => ⟨hm, fun h => by cases h⟩⟩
  | calibrating p =>
    cases p with
    | calWait =>
      obtain ⟨m, y, c, hm, e⟩ := s.grantTo_calWait hs
      rw [e]
      rw [State.stateOf] at hs
      exact ⟨rfl, by simp [hs, FaderState.takesClaims], by simp [hs, FaderState.seeking, FaderState.takesClaims],
        fun hl => ⟨hm.trans hl.1, fun h => by cases h⟩⟩
    | _ => simp [hs, FaderState.queued] at hq
  | _ => simp [hs, FaderState.queued] at hq

theorem grantAlong (l : List FaderIx) (s : State) : HandsOut f s (Machine.grantAlong l s) := by
  induction l generalizing s with
  | nil => exact refl f s
  | cons x l ih =>
    unfold Machine.grantAlong
    split
    · exact (grantTo s x).trans (ih _)
    · exact refl f s

theorem grant (s : State) : HandsOut f s s.grant := grantAlong _ s

end State.HandsOut

/-- An operation on fader `x`, which takes claims, seen from a fader `f`. -/
def State.Serves (x f : FaderIx) (s t : State) : Prop :=
  (x = f → (s.stateOf f).takesClaims = true) → HandsOut f s t

namespace State.Serves
variable {x f : FaderIx} {s t u : State}

theorem trans (h : Serves x f s t) (k : Serves x f t u) : Serves x f s u :=
  fun hx => (h hx).trans (k fun e => (h hx).takes (hx e))

theorem of_handsOut (h : HandsOut f s t) : Serves x f s t := fun _ => h

theorem refl (x f : FaderIx) (s : State) : Serves x f s s := of_handsOut (.refl f s)

/-- An operation on `x` spares every other fader, and is a permitted change of its own. -/
theorem of_own (hne : f ≠ x → Spares f s t) (hown : f = x → (s.fader f).Permits (t.fader f)) : Serves x f s t := by
  intro hx
  by_cases h : f = x
  · exact .of_takes (hx h.symm) (hown h)
  · exact .of_spares (hne h)

theorem ite {c : Prop} [Decidable c] (ht : c → Serves x f s t) (hu : ¬c → Serves x f s u) :
    Serves x f s (if c then t else u) := by
  split
  · exact ht ‹_›
  · exact hu ‹_›

theorem modRecord (s : State) {g : FaderRecord → FaderRecord} (hg : ∀ r, (g r).state = r.state) :
    Serves x f s (s.modRecord x g) :=
  of_own (.modRecord s g) fun _ => .of_sameButRecord (s.modRecord_sameButRecord x hg f)

theorem clearClaim (s : State) : Serves x f s (s.clearClaim x) := modRecord s fun _ => rfl

theorem raise (s : State) {n : Notice} {k : FaderNotice} (hn : n.key = .fader x k) : Serves x f s (s.raise n) :=
  of_own (fun h => .raise s fun _ e => h (NoticeKey.fader.inj (hn.symm.trans e)).1.symm) fun _ => .refl _

theorem goTo (s : State) {st : FaderState} (h : st.seeking = true) : Serves x f s (s.goTo x st) :=
  of_own (.goTo s st) fun e => e ▸ s.goTo_permits f h

theorem layRamp (s : State) (hd : (s.stateOf x).driven = true) :
    Serves x f s (s.layRamp x (s.fader x).motion.setpoint) :=
  of_own (fun h => .of_eq (s.layRamp_fader_ne _ h) rfl) fun e => by subst e; exact s.layRamp_permits f hd (.inl rfl)

theorem moveTest (s : State) : Serves x f s (s.moveTest x) := by
  unfold State.moveTest
  exact ite (fun _ => raise s rfl) fun _ => refl x f s

theorem entryTest (s : State) (q : Bool) : Serves x f s (s.entryTest x q) := by
  unfold State.entryTest
  exact ite (fun _ => refl x f s) fun _ => moveTest s

theorem reportEnd (s : State) (o : Outcome) : Serves x f s (s.reportEnd x o) :=
  of_own (.reportEnd s o) fun _ => .of_eq (s.reportEnd_fader x o f)

theorem claimEnded (s : State) (c : Claim) : Serves x f s (s.claimEnded x c) := of_handsOut (.of_spares (.claimEnded s x c))

theorem disableLane (s : State) (r : LaneReason) : Serves x f s (s.disableLane x (some r)) := by
  simp only [State.disableLane]
  refine ite (fun _ => trans (t := s.modLane x _) ?_ (raise _ rfl)) fun _ => refl x f s
  exact of_own (fun h => .modFader s _ h) fun e => by
    subst e
    rw [State.modLane_fader]
    exact .of_items rfl rfl rfl

/-- The trip of a fader in WAITING, TRAVEL or SETTLE (R65). -/
theorem tripTest (s : State) (q : Bool) (hm : (s.stateOf x).moving = true) : Serves x f s (s.tripTest x q) := by
  unfold State.tripTest State.trip
  refine ite (fun _ => ite (fun _ => ?_) fun _ => refl x f s) fun _ => refl x f s
  rw [if_pos hm]
  exact ((goTo s rfl).trans (entryTest _ q)).trans (raise _ rfl)

theorem enterWaiting (s : State) (q : Bool) : Serves x f s (s.enterWaiting x q) := by
  unfold State.enterWaiting
  refine (((goTo s rfl).trans (entryTest _ q)).trans (tripTest _ q ?_)).trans (of_handsOut (.grant _))
  rw [State.stateOf, State.entryTest_fader, State.goTo_fader]
  rfl

theorem resolveArrival (s : State) : Serves x f s (s.resolveArrival x) := by
  simp only [State.resolveArrival]
  refine trans (t := s.modRecord x fun r => { r with planned := none }) (modRecord s fun _ => rfl) ?_
  split
  · exact refl x f _
  · exact ((reportEnd _ _).trans (clearClaim _)).trans (claimEnded _ _)
  · exact ((of_handsOut (.of_spares (.writeOutcome _ _ _ _))).trans (clearClaim _)).trans (claimEnded _ _)
  · exact refl x f _
  · exact ite (fun _ => refl x f _) fun _ => ((reportEnd _ _).trans (clearClaim _)).trans (claimEnded _ _)

theorem arriveAtOnce (s : State) (p : Nat) (q : Bool) : Serves x f s (s.arriveAtOnce x p q) := by
  simp only [State.arriveAtOnce]
  refine (modRecord s (g := fun r => { r with target := p, hold := p }) fun _ => rfl).trans ?_
  generalize s.modRecord x (fun r => { r with target := p, hold := p }) = s
  split
  · exact (((goTo s rfl).trans (resolveArrival _)).trans (entryTest _ _)).trans (of_handsOut (.grant _))
  · exact (resolveArrival s).trans (of_handsOut (.grant _))

theorem seek (s : State) (p : Nat) (q : Bool) : Serves x f s (s.seek x p q) := by
  simp only [State.seek]
  refine (modRecord s (g := fun r => { r with target := p }) fun _ => rfl).trans ?_
  generalize s.modRecord x (fun r => { r with target := p }) = s
  split
  · exact enterWaiting s q
  · rename_i h
    exact layRamp s (by rw [h]; rfl)
  · have e : (s.fader x).motion.setpoint = ((s.goTo x .travel).fader x).motion.setpoint := by rw [s.goTo_fader]; rfl
    rw [e]
    exact (goTo s rfl).trans (layRamp _ (by rw [State.stateOf, s.goTo_fader]; rfl))
  · exact refl x f s

theorem takeClaim (s : State) (c : Claim) (p : Nat) (planned deadline expiry : Option Time) :
    Serves x f s (s.takeClaim x c p planned deadline expiry) := by
  unfold State.takeClaim
  extract_lets old s1 s2 s3 quiet s4 s5
  have ends : Serves x f s s1 := ite (fun _ => disableLane s _) fun _ => reportEnd s _
  have holds : Serves x f s1 s2 := ite (fun _ => refl x f s1) fun _ => modRecord s1 fun _ => rfl
  have claims : Serves x f s2 s3 := modRecord s2 fun _ => rfl
  have moves : Serves x f s3 s4 := ite (fun _ => arriveAtOnce s3 p quiet) fun _ => seek s3 p quiet
  have told : Serves x f s4 s5 := ite (fun _ => refl x f s4) fun _ => claimEnded s4 old
  exact ((((ends.trans holds).trans claims).trans moves).trans told).trans (of_handsOut (.evalLead s5 x))

end State.Serves

end Sys2Proof.Machine
end

section
namespace Sys2Proof.Machine

/-! ## The completion of recalls, seen from one fader -/

namespace State.HandsOut
variable {f : FaderIx}

theorem handEntry (s : State) (tag glide : Nat) (run : RecallRun) (e : Entry) (i : Nat) :
    HandsOut f s (s.handEntry tag glide run e i) := by
  have written (o : Outcome) : HandsOut f s (s.writeOutcome tag i o) := of_spares (.writeOutcome s tag i o)
  unfold State.handEntry
  split
  · exact written _
  · exact written _
  · exact written _
  · rename_i touched faulted calibrating
    refine Serves.takeClaim s _ _ _ _ _ ?_
    rintro rfl
    cases h : s.stateOf e.fader <;> simp_all [FaderState.takesClaims]

theorem handEntries (tag glide : Nat) (run : RecallRun) (l : List (Entry × Nat)) (s : State) :
    HandsOut f s (Machine.handEntries tag glide run l s) := by
  induction l generalizing s with
  | nil => exact refl f s
  | cons x l ih => exact (handEntry s tag glide run x.1 x.2).trans (ih _)

theorem startTest (s : State) (c : TestCause) : HandsOut f s (s.startTest c) := by
  simp only [State.startTest, State.startHead]
  split
  · split
    · exact refl f s
    · refine trans (of_spares ?_) (handEntries _ _ _ _ _)
      exact .of_eq rfl rfl
  · exact refl f s

theorem settleAlong (n : Nat) (s : State) : HandsOut f s (Machine.settleAlong n s) := by
  induction n generalizing s with
  | zero => exact refl f s
  | succ n ih =>
    unfold Machine.settleAlong
    split
    · exact refl f s
    · rename_i r rest _
      split
      · exact refl f s
      · split
        · have removed : HandsOut f s { s with recalls := rest } := of_spares (.of_eq rfl rfl)
          exact ((removed.trans (of_spares (.raise _ (by intro _ e; cases e)))).trans (startTest _ _)).trans (ih _)
        · exact refl f s

/-- Completed recalls, and the starts that follow, seen from one fader (R112). -/
theorem settleRecalls (s : State) : HandsOut f s s.settleRecalls := settleAlong _ s

end State.HandsOut

/-! ## The completion of recalls, seen from the recall queue -/

theorem outcomes_all_isSome {l : List (Option Outcome)} : l.all (·.isSome) = true ↔ none ∉ l := by
  rw [List.all_eq_true]
  refine ⟨fun h hn => by simpa using h none hn, fun h o ho => ?_⟩
  cases o with
  | none => exact absurd ho h
  | some _ => rfl

/-- No recall completes while each running one has an open entry (R112). -/
theorem State.settleRecalls_open {s : State} (h : s.recallsOpen) : s.settleRecalls = s := by
  unfold State.settleRecalls
  cases hr : s.recalls with
  | nil => rfl
  | cons r rest =>
    simp only [List.length_cons, settleAlong, hr]
    split
    · rfl
    · rename_i run e
      have : none ∈ run.outcomes := h r (hr ▸ List.mem_cons_self) run e
      rw [if_neg fun ha => outcomes_all_isSome.1 ha this]

/-- The only recall completes with its last outcome: it leaves the queue, and RECALL-END is raised (R112, R113). -/
theorem State.settleRecalls_last {s : State} {r : Recall} {run : RecallRun} (hs : s.recalls = [r])
    (hr : r.run = some run) (h : none ∉ run.outcomes) :
    s.settleRecalls = { s with recalls := [] }.raise
      (.recallEnd r.tag r.page false (outcomeItems (s.page r.page) run)) := by
  simp [State.settleRecalls, hs, settleAlong, hr, outcomes_all_isSome.2 h, State.startTest, State.startFound]

/-- With every outcome written each entry is listed with its own (R113). -/
theorem outcomeItems_done (p : Page) (run : RecallRun) (d : Outcome) (h : none ∉ run.outcomes) :
    outcomeItems p run = (p.entries.zip run.outcomes).map fun (e, o) => (e.fader, o.getD d) := by
  unfold outcomeItems
  rw [← List.filterMap_eq_map]
  refine List.filterMap_congr fun x hx => ?_
  obtain ⟨e, o⟩ := x
  cases o with
  | none => exact absurd (List.of_mem_zip hx).2 h
  | some o => rfl

/-- From `s` to `t` only the first recall has been written. -/
structure State.WritesHead (s t : State) : Prop where
  tail : t.recalls.tail = s.recalls.tail
  length : t.recalls.length = s.recalls.length

namespace State.WritesHead
variable {s t u : State}

theorem of_eq (h : t.recalls = s.recalls) : WritesHead s t := ⟨by rw [h], by rw [h]⟩

theorem trans (h : WritesHead s t) (k : WritesHead t u) : WritesHead s u :=
  ⟨k.tail.trans h.tail, k.length.trans h.length⟩

theorem writeOutcome (s : State) (tag i : Nat) (o : Outcome) : WritesHead s (s.writeOutcome tag i o) := by
  unfold State.writeOutcome
  split
  · exact of_eq rfl
  · rename_i e
    split
    · exact of_eq rfl
    · split
      · exact ⟨by simp [e], by simp [e]⟩
      · exact of_eq rfl

theorem reportEnd (s : State) (x : FaderIx) (o : Outcome) : WritesHead s (s.reportEnd x o) := by
  cases h : (s.claimOf x).isRecall with
  | false => exact of_eq (State.reportEnd_recalls o h)
  | true =>
    unfold State.reportEnd
    split <;> simp_all [Claim.isRecall]
    exact writeOutcome s _ _ o

theorem resolveArrival (s : State) (x : FaderIx) : WritesHead s (s.resolveArrival x) := by
  simp only [State.resolveArrival]
  refine trans (t := s.modRecord x fun r => { r with planned := none }) (of_eq rfl) ?_
  generalize s.modRecord x (fun r => { r with planned := none }) = s
  have ended (t : State) (c : Claim) : WritesHead t ((t.clearClaim x).claimEnded x c) := of_eq (by simp)
  split
  · exact of_eq rfl
  · exact (reportEnd s x _).trans (ended _ _)
  · exact (writeOutcome s _ _ _).trans (ended _ _)
  · exact of_eq rfl
  · split
    · exact of_eq rfl
    · exact (reportEnd s x _).trans (ended _ _)

theorem takeClaim (s : State) (x : FaderIx) (c : Claim) (p : Nat) (planned deadline expiry : Option Time) :
    WritesHead s (s.takeClaim x c p planned deadline expiry) := by
  unfold State.takeClaim
  extract_lets old s1 s2 s3 quiet s4 s5
  have ends : WritesHead s s1 := by
    unfold s1
    split
    · exact of_eq (by simp)
    · exact reportEnd s x _
  have claims : WritesHead s1 s3 := of_eq (by unfold s3 s2; split <;> rfl)
  have moves : WritesHead s3 s4 := by
    unfold s4 State.arriveAtOnce
    split
    · extract_lets _ t1 t2 _ t3
      have parks : WritesHead s3 t2 := of_eq (by unfold t2 t1; split <;> simp)
      refine (parks.trans (resolveArrival t2 x)).trans (of_eq ?_)
      split <;> simp [t3]
    · exact of_eq (by simp)
  have told : WritesHead s4 (s5.evalLead x) := of_eq (by unfold s5; split <;> simp)
  exact ((ends.trans claims).trans moves).trans told

theorem handEntries (tag glide : Nat) (run : RecallRun) (l : List (Entry × Nat)) (s : State) :
    WritesHead s (Machine.handEntries tag glide run l s) := by
  induction l generalizing s with
  | nil => exact of_eq rfl
  | cons x l ih =>
    have handed : WritesHead s (s.handEntry tag glide run x.1 x.2) := by
      unfold State.handEntry
      split
      · exact writeOutcome s _ _ _
      · exact writeOutcome s _ _ _
      · exact writeOutcome s _ _ _
      · exact takeClaim s _ _ _ _ _ _
    exact handed.trans (ih _)

theorem startTest (s : State) (c : TestCause) : WritesHead s (s.startTest c) := by
  unfold State.startTest State.startHead
  split
  · split
    · exact of_eq rfl
    · rename_i e
      refine trans ⟨?_, ?_⟩ (handEntries _ _ _ _ _)
      · simp [e]
      · simp [e]
  · exact of_eq rfl

end State.WritesHead

/-- Every running recall but the first has an open entry. -/
def State.tailOpen (s : State) : Prop := ∀ r ∈ s.recalls.tail, ∀ run, r.run = some run → none ∈ run.outcomes

theorem State.WritesHead.tailOpen {s t : State} (h : s.WritesHead t) (hs : s.tailOpen) : t.tailOpen := by
  unfold State.tailOpen
  rw [h.tail]
  exact hs

theorem State.recallsOpen.tailOpen {s : State} (h : s.recallsOpen) : s.tailOpen :=
  fun r hr => h r (List.mem_of_mem_tail hr)

/-- The completions end at a recall with an open entry, or with the queue empty. -/
theorem recallsOpen_settleAlong (n : Nat) (s : State) (hn : s.recalls.length ≤ n) (ht : s.tailOpen) :
    (settleAlong n s).recallsOpen := by
  induction n generalizing s with
  | zero =>
    have : s.recalls = [] := List.length_eq_zero_iff.1 (Nat.le_zero.1 hn)
    simp [settleAlong, State.recallsOpen, this]
  | succ n ih =>
    unfold settleAlong
    cases hr : s.recalls with
    | nil => simp [State.recallsOpen, hr]
    | cons r rest =>
      have rest_open : ∀ r ∈ rest, ∀ run, r.run = some run → none ∈ run.outcomes := by
        simpa [State.tailOpen, hr] using ht
      dsimp only
      split
      · rename_i e
        simpa [State.recallsOpen, hr, e] using rest_open
      · rename_i run e
        split
        · have started := State.WritesHead.startTest (({ s with recalls := rest }.raise
            (.recallEnd r.tag r.page false (outcomeItems (s.page r.page) run)))) .becameHead
          refine ih _ ?_ (started.tailOpen fun r' h' => rest_open r' (List.mem_of_mem_tail h'))
          rw [started.length]
          simpa [hr] using hn
        · rename_i ha
          have : none ∈ run.outcomes := by
            by_contra hc
            exact ha (outcomes_all_isSome.2 hc)
          simpa [State.recallsOpen, hr, e, this] using rest_open

theorem State.recallsOpen_settleRecalls {s : State} (h : s.tailOpen) : s.settleRecalls.recallsOpen :=
  recallsOpen_settleAlong _ s le_rfl h

end Sys2Proof.Machine
end

section
namespace Sys2Proof.Machine

/-! ## A servo sample: what it leaves alone -/

/-- From `s` to `t` the clock may have moved and the sensed items of fader `f` changed, but for its touch items. -/
structure State.SamplesOnly (f : FaderIx) (s t : State) : Prop where
  rest : t.base = { s.base with now := t.now, faders := t.base.faders }
  others : ∀ f', f' ≠ f → (t.fader f').senses = (s.fader f').senses
  touch : (t.fader f).touch = (s.fader f).touch

namespace State.SamplesOnly
variable {f : FaderIx} {s t u : State}

theorem of_base (h : t.base = s.base) : SamplesOnly f s t where
  rest := by rw [State.now_of_base h, h]; rfl
  others f' _ := State.senses_of_base h f'
  touch := State.touch_of_base h f

theorem trans (h : SamplesOnly f s t) (k : SamplesOnly f t u) : SamplesOnly f s u where
  rest := by rw [k.rest, h.rest]
  others f' hf := (k.others f' hf).trans (h.others f' hf)
  touch := k.touch.trans h.touch

theorem modTrack (s : State) (g : Track → Track) : SamplesOnly f s (s.modTrack f g) where
  rest := rfl
  others f' hf := by rw [State.modTrack, s.fader_modFader_ne _ hf]
  touch := by rw [State.modTrack_fader]

theorem modHeat (s : State) (g : Heat → Heat) : SamplesOnly f s (s.modHeat f g) where
  rest := rfl
  others f' hf := by rw [State.modHeat, s.fader_modFader_ne _ hf]
  touch := by rw [State.modHeat_fader]

/-- The time of a sample: the clock, and the track item that names the next sample's (R1). -/
theorem sampleTime (s : State) : SamplesOnly f s (s.sampleTime f) where
  rest := rfl
  others f' hf := by rw [State.sampleTime, State.modTrack, State.fader_modFader_ne _ _ hf]; rfl
  touch := by rw [State.sampleTime, State.modTrack_fader]; rfl

end State.SamplesOnly

/-! ## The full heat window (R63, R64) -/

/-- The heat items with a full window closed. -/
def Heat.closedIfFull (h : Heat) : Heat := if 20 ≤ h.samples then h.closeWindow else h

/-- Updates that agree on a fader's items give the same state. -/
theorem State.modFader_congr {s : State} {f : FaderIx} {g h : Fader → Fader} (e : g (s.fader f) = h (s.fader f)) :
    s.modFader f g = s.modFader f h := by
  simp only [State.modFader, e]

/-- An update that leaves a fader's items as they are changes nothing. -/
theorem State.modFader_self {s : State} {f : FaderIx} {g : Fader → Fader} (e : g (s.fader f) = s.fader f) :
    s.modFader f g = s := by
  have : s.faders.set f.val (s.fader f) = s.faders := Vector.set_getElem_self f.isLt
  simp only [State.modFader, e, this]

theorem State.base_closeFullWindow (s : State) (f : FaderIx) :
    (s.closeFullWindow f).base = (s.modHeat f Heat.closedIfFull).base := by
  unfold State.closeFullWindow
  split
  · rename_i h
    rw [show s.modHeat f Heat.closedIfFull = s.modHeat f Heat.closeWindow from
      State.modFader_congr (by simp [Heat.closedIfFull, h])]
    simp [State.windowEnd]
  · rename_i h
    rw [show s.modHeat f Heat.closedIfFull = s from State.modFader_self (by simp [Heat.closedIfFull, h])]

theorem State.WritesHead.resumeTest (s : State) (f : FaderIx) : WritesHead s (s.resumeTest f) := by
  unfold State.resumeTest State.resume
  split
  · extract_lets _ s1 s2
    have parks : WritesHead s s1 := of_eq (by simp [s1])
    have moves : WritesHead s s2 := by
      unfold s2
      split
      · exact of_eq (by simp)
      · exact (parks.trans (resolveArrival s1 f)).trans (of_eq (by simp))
    exact moves.trans (of_eq (by simp))
  · exact of_eq rfl

/-- A recall that the resume at a window's end completes (R66) has left the queue before the sample. -/
theorem State.recallsOpen_closeFullWindow {s : State} (f : FaderIx) (h : s.recallsOpen) :
    (s.closeFullWindow f).recallsOpen := by
  unfold State.closeFullWindow State.windowEnd
  split
  · have tripped : WritesHead s ((s.modHeat f Heat.closeWindow).tripEvent f) :=
      .of_eq (by simp [State.tripEvent, State.modHeat])
    exact State.recallsOpen_settleRecalls ((tripped.trans (.resumeTest _ f)).tailOpen h.tailOpen)
  · exact h

/-! ## The Track Sense Unit at a sample (R2 to R4, R6) -/

/-- The track items after a sample, first or ordinary. -/
def Track.sensed (t : Track) (low high raw : Nat) : Track :=
  if t.first then t.firstSample low high raw else t.sample low high raw

/-- What sensing leaves but the track items is Fader Control's. -/
theorem State.base_sense (s : State) (f : FaderIx) (raw : BitVec 12) :
    (s.sense f raw).base =
      (s.modTrack f fun t => t.sensed (s.config f).calLow (s.config f).calHigh raw.toNat).base := by
  unfold State.sense
  split
  · rename_i h
    rw [show (s.modTrack f fun t => t.sensed (s.config f).calLow (s.config f).calHigh raw.toNat) =
        s.modTrack f fun t => t.firstSample (s.config f).calLow (s.config f).calHigh raw.toNat from
      State.modFader_congr (by simp [Track.sensed, h])]
    simp only [State.senseFirst]
    split <;> simp
  · rename_i h
    rw [show (s.modTrack f fun t => t.sensed (s.config f).calLow (s.config f).calHigh raw.toNat) =
        s.modTrack f fun t => t.sample (s.config f).calLow (s.config f).calHigh raw.toNat from
      State.modFader_congr (by simp [Track.sensed, h])]
    simp only [State.senseNext]
    split <;> split <;> simp

end Sys2Proof.Machine
end

section
namespace Sys2Proof.Machine

/-! ## Sensing writes no outcome but at an arrival -/

/-- An arrival under a claim other than RECALL writes no outcome. -/
theorem State.resolveArrival_recalls {s : State} {f : FaderIx} (h : (s.claimOf f).isRecall = false) :
    (s.resolveArrival f).recalls = s.recalls := by
  have hc : (s.modRecord f fun r => { r with planned := none }).claimOf f = s.claimOf f := by
    simp [State.claimOf]
  simp only [State.resolveArrival]
  have reported (o : Outcome) := State.reportEnd_recalls (s := s.modRecord f fun r => { r with planned := none })
    (f := f) o (by rw [hc]; exact h)
  split
  · rfl
  · simp [reported]
  · rename_i e
    rw [← hc, e] at h
    cases h
  · rfl
  · split
    · rfl
    · simp [reported]

/-- A claim other than RECALL, taken over a claim other than RECALL, writes no outcome. -/
theorem State.takeClaim_recalls {s : State} {f : FaderIx} {c : Claim} (p : Nat) (planned deadline expiry : Option Time)
    (hs : (s.claimOf f).isRecall = false) (hc : c.isRecall = false) :
    (s.takeClaim f c p planned deadline expiry).recalls = s.recalls := by
  unfold State.takeClaim
  extract_lets old s1 s2 s3 quiet s4 s5
  have ends : s1.recalls = s.recalls := by
    unfold s1
    split
    · simp
    · exact State.reportEnd_recalls _ hs
  have claims : s3.recalls = s1.recalls := by unfold s3 s2; split <;> rfl
  have claim : (s3.fader f).record.claim = c := by simp [s3]
  have moves : s4.recalls = s3.recalls := by
    unfold s4 State.arriveAtOnce
    split
    · extract_lets _ t1 t2 _ t3
      have parks : t2.recalls = s3.recalls := by unfold t2 t1; split <;> simp
      have kept : (t2.claimOf f).isRecall = false := by
        rw [← hc, ← claim, State.claimOf]
        unfold t2 t1
        split <;> simp [State.goTo_fader]
      have : t3.recalls = t2.recalls := State.resolveArrival_recalls kept
      split <;> simp [this, parks]
    · simp
  have told : (s5.evalLead f).recalls = s4.recalls := by unfold s5; split <;> simp
  rw [told, moves, claims, ends]

@[simp] theorem State.retarget_recalls (s : State) (f : FaderIx) (t : Nat) : (s.retarget f t).recalls = s.recalls := by
  simp only [State.retarget]
  split
  · rfl
  · split <;> (try split) <;> simp

@[simp] theorem State.driftTest_recalls (s : State) (f : FaderIx) : (s.driftTest f).recalls = s.recalls := by
  unfold State.driftTest; split <;> simp

@[simp] theorem State.handFollow_recalls (s : State) (g : GroupIx) (p : Nat) (f : FaderIx) :
    (s.handFollow g p f).recalls = s.recalls := by
  simp only [State.handFollow]
  split
  · rfl
  · split
    · split
      · rename_i e
        rw [State.takeClaim_recalls _ _ _ _ (c := .follow g) (by simp [State.claimOf] at e ⊢; simp [e, Claim.isRecall]) rfl]
        rfl
      · simp [State.modMember]
      · rfl
    · rfl

@[simp] theorem State.followMaster_recalls (s : State) (f : FaderIx) : (s.followMaster f).recalls = s.recalls := by
  unfold State.followMaster
  split
  · rfl
  · split
    · exact State.each_keeps (P := fun t => t.recalls = s.recalls) (fun _ _ h => by simpa using h) _ rfl
    · rfl

@[simp] theorem State.positionChange_recalls (s : State) (f : FaderIx) :
    (s.positionChange f).recalls = s.recalls := by
  simp only [State.positionChange]; split <;> simp

/-- An ordinary sample is sensed without an outcome. -/
theorem State.senseNext_recalls (s : State) (f : FaderIx) (raw : Nat) : (s.senseNext f raw).recalls = s.recalls := by
  simp only [State.senseNext]
  split <;> split <;> simp [State.modTrack, State.modFault]

theorem Fader.SameButRecord.state {x y : Fader} (h : x.SameButRecord y) : y.record.state = x.record.state := by
  obtain ⟨r, hr, rfl⟩ := h
  exact hr

/-- The claim resolved at an arrival changes the record only, and not its state. -/
theorem State.resolveArrival_sameButRecord (s : State) (f f' : FaderIx) :
    (s.fader f').SameButRecord ((s.resolveArrival f).fader f') := by
  have cleared (t : State) (c : Claim) : (t.fader f').SameButRecord (((t.clearClaim f).claimEnded f c).fader f') := by
    rw [State.claimEnded_fader]
    exact t.clearClaim_sameButRecord f f'
  simp only [State.resolveArrival]
  refine (s.modRecord_sameButRecord f (g := fun r => { r with planned := none }) (fun _ => rfl) f').trans ?_
  generalize s.modRecord f (fun r => { r with planned := none }) = s
  have reported := cleared (s.reportEnd f .arrived)
  rw [State.reportEnd_fader] at reported
  split
  · exact .refl _
  · exact reported _
  · have written (tag i : Nat) (o : Outcome) := cleared (s.writeOutcome tag i o)
    simp only [State.writeOutcome_fader] at written
    exact written _ _ _ _
  · exact .refl _
  · split
    · exact .refl _
    · exact reported _

/-- The grant rule leaves a fader's state where it is not queued. -/
theorem State.stateOf_grant (s : State) {f : FaderIx} (h : (s.stateOf f).queued = false) :
    s.grant.stateOf f = s.stateOf f := congrArg (·.record.state) (Spares.grant s h).fader

/-- The evaluation of a lead and the grant rule leave a fader's state where it is not queued. -/
theorem State.stateOf_evalLead_grant (s : State) {x f : FaderIx} (h : (s.stateOf f).queued = false) :
    ((s.evalLead x).grant).stateOf f = s.stateOf f := by
  have lead : (s.evalLead x).stateOf f = s.stateOf f := (s.evalLead_sameButRecord x f).state
  rw [← lead] at h ⊢
  exact State.stateOf_grant _ h

/-- After an arrival the fader is PARKED (R51). -/
theorem State.arrive_stateOf (s : State) (f : FaderIx) : (s.arrive f).stateOf f = .parked := by
  simp only [State.arrive]
  have parked : (((((s.goTo f .parked).modRecord f fun r => { r with hold := r.target }).resolveArrival f).entryTest f
      (s.arrivalRaises f)).stateOf f) = .parked := by
    rw [State.stateOf, State.entryTest_fader, (State.resolveArrival_sameButRecord _ f f).state, State.modRecord_fader,
      State.goTo_fader]
  rw [State.stateOf_evalLead_grant _ (by rw [parked]; rfl), parked]

/-- A sample that is sensed while each running recall has an open entry leaves it so, unless the fader arrives and parks. -/
theorem State.recallsOpen_sense {s : State} (f : FaderIx) (raw : BitVec 12) (h : s.recallsOpen) :
    (s.sense f raw).recallsOpen ∨ (s.sense f raw).stateOf f = .parked := by
  have kept {t : State} (e : t.recalls = s.recalls) : t.recallsOpen := by rwa [State.recallsOpen, e]
  unfold State.sense
  split
  · simp only [State.senseFirst]
    split
    · exact .inr (State.arrive_stateOf _ f)
    · exact .inl (kept rfl)
    · exact .inl (kept (by simp [State.modTrack]))
    · exact .inl (kept rfl)
  · exact .inl (kept (s.senseNext_recalls f _))

end Sys2Proof.Machine
end

section
namespace Sys2Proof.Machine

/-! ## The motor at a sample (R42 to R50) -/

/-- A sample as far as its sensing. -/
def State.sensed (s : State) (f : FaderIx) (raw : BitVec 12) : State := ((s.closeFullWindow f).sampleTime f).sense f raw

/-- The Motion Generator's part of a sample, and the level handed on to the heat window (R48, R64). -/
def State.drives (s : State) (f : FaderIx) : State :=
  let t := s.modMotion f fun m => m.sample (s.stateOf f) s.now (s.posOf f)
  t.modHeat f fun h => h.addSample (t.fader f).motion.drive (t.holdsSlot f)

theorem State.sampleMotion_eq (s : State) (f : FaderIx) (raw : BitVec 12) :
    s.sampleMotion f raw = ((s.sensed f raw).drives f).windowTest f := rfl

/-- The state is TRAVEL or SETTLE, where the servo loop drives (R47). -/
def FaderState.servoed (st : FaderState) : Prop := st = .travel ∨ st = .settle

theorem State.drives_fader (s : State) (f : FaderIx) :
    (s.drives f).fader f = { s.fader f with
      motion := (s.fader f).motion.sample (s.stateOf f) s.now (s.posOf f)
      heat := (s.fader f).heat.addSample ((s.fader f).motion.sample (s.stateOf f) s.now (s.posOf f)).drive
        (s.holdsSlot f) } := by
  simp [State.drives, State.holdsSlot, State.stateOf]

@[simp] theorem State.drives_stateOf (s : State) (f : FaderIx) : (s.drives f).stateOf f = s.stateOf f := by
  rw [State.stateOf, State.drives_fader]; rfl
@[simp] theorem State.drives_recalls (s : State) (f : FaderIx) : (s.drives f).recalls = s.recalls := rfl
@[simp] theorem State.drives_now (s : State) (f : FaderIx) : (s.drives f).now = s.now := rfl
@[simp] theorem State.windowTest_recalls (s : State) (f : FaderIx) : (s.windowTest f).recalls = s.recalls := by
  unfold State.windowTest; split <;> (try split) <;> simp

/-- The test of the arrival window moves a fader between TRAVEL and SETTLE and writes the settle count (R49, R50). -/
theorem State.windowTest_servoed {s : State} {f : FaderIx} (h : (s.stateOf f).servoed) :
    ((s.windowTest f).stateOf f).servoed ∧
      ∃ n, ((s.windowTest f).fader f).motion = { (s.fader f).motion with settleCount := n } := by
  unfold State.windowTest
  rcases h with h | h <;> simp only [h]
  · split
    · exact ⟨.inr (by simp [State.stateOf, State.goTo_fader]), 0, by simp [State.goTo_fader, FaderState.driven]⟩
    · exact ⟨.inl h, _, rfl⟩
  · split
    · exact ⟨.inr (by simpa [State.stateOf] using h), _, by rw [State.modMotion_fader]⟩
    · exact ⟨.inl (by simp [State.stateOf, State.goTo_fader]), 0, by simp [State.goTo_fader, FaderState.driven]⟩

/-- In every other state there is no such test. -/
theorem State.windowTest_other {s : State} {f : FaderIx} (h : ¬(s.stateOf f).servoed) : s.windowTest f = s := by
  unfold State.windowTest
  split
  · exact absurd (.inl ‹_›) h
  · exact absurd (.inr ‹_›) h
  · rfl

/-- The test of the arrival window changes no drive level, no setpoint and no ramp, and the motor stays driven or not. -/
theorem State.windowTest_motion (s : State) (f : FaderIx) :
    ((s.windowTest f).stateOf f).driven = (s.stateOf f).driven ∧
      ∃ n, ((s.windowTest f).fader f).motion = { (s.fader f).motion with settleCount := n } := by
  by_cases h : (s.stateOf f).servoed
  · have driven {st : FaderState} (k : st.servoed) : st.driven = true := by rcases k with rfl | rfl <;> rfl
    have := State.windowTest_servoed h
    exact ⟨(driven this.1).trans (driven h).symm, this.2⟩
  · rw [State.windowTest_other h]
    exact ⟨rfl, _, rfl⟩

/-- A servoed fader's drive level (R47). -/
theorem Motion.sample_servoed (m : Motion) {st : FaderState} (now : Time) (pos : Nat) (h : st.servoed) :
    (m.sample st now pos).drive = servoDrive (m.sample st now pos).setpoint pos := by
  rcases h with rfl | rfl <;> rfl

/-- An undriven fader's motion items (R42). -/
theorem Motion.sample_undriven (m : Motion) {st : FaderState} (now : Time) (pos : Nat) (h : st.driven = false) :
    m.sample st now pos = Motion.at pos := by
  match st, h with
  | .parked, _ | .waiting, _ | .touched, _ | .rest, _ | .faulted, _ => rfl
  | .calibrating .calWait, _ | .calibrating .calReview, _ => rfl

/-- The drive level of CAL-DOWN and of CAL-UP, open loop (R82, R83). -/
theorem Motion.sample_finding (m : Motion) {p : CalPhase} (now : Time) (pos : Nat)
    (hp : (FaderState.calibrating p).driven = true) :
    (m.sample (.calibrating p) now pos).drive = p.drive ∧ (m.sample (.calibrating p) now pos).setpoint = pos := by
  cases p with
  | calDown => exact ⟨rfl, rfl⟩
  | calUp => exact ⟨rfl, rfl⟩
  | _ => cases hp

section sampled
variable (s : State) (f : FaderIx) (raw : BitVec 12)

/-- Track and heat of the fader sampled, at the end of its motion part. -/
theorem State.sampleMotion_track : ((s.sampleMotion f raw).fader f).track = ((s.sensed f raw).fader f).track := by
  rw [s.sampleMotion_eq, State.track_of_base (State.base_windowTest _ f), State.drives_fader]

/-- The level and the mark handed on are those the fader has after the sample's motion part (R64). -/
theorem State.sampleMotion_heat : ((s.sampleMotion f raw).fader f).heat =
    ((s.sensed f raw).fader f).heat.addSample ((s.sampleMotion f raw).fader f).motion.drive
      ((s.sampleMotion f raw).holdsSlot f) := by
  rw [s.sampleMotion_eq, State.heat_of_base (State.base_windowTest _ f), State.holdsSlot]
  obtain ⟨driven, n, motion⟩ := State.windowTest_motion ((s.sensed f raw).drives f) f
  rw [driven, motion, State.drives_stateOf, State.drives_fader]
  rfl

theorem State.sampleMotion_servoed (h : ((s.sampleMotion f raw).stateOf f).servoed) :
    ((s.sampleMotion f raw).fader f).motion.drive =
      servoDrive ((s.sampleMotion f raw).fader f).motion.setpoint ((s.sampleMotion f raw).posOf f) := by
  have moving : ((s.sensed f raw).stateOf f).servoed := by
    by_contra hn
    rw [s.sampleMotion_eq, State.windowTest_other (by simpa using hn), State.drives_stateOf] at h
    exact hn h
  obtain ⟨-, n, motion⟩ := State.windowTest_motion ((s.sensed f raw).drives f) f
  rw [State.posOf, s.sampleMotion_track, s.sampleMotion_eq, motion, State.drives_fader]
  exact Motion.sample_servoed _ _ _ moving

/-- Outside TRAVEL and SETTLE the motion items are those of the fader's state (R41, R42). -/
theorem State.sampleMotion_other (h : ¬((s.sampleMotion f raw).stateOf f).servoed) :
    ∃ m n, ((s.sampleMotion f raw).fader f).motion =
      Motion.sample m ((s.sampleMotion f raw).stateOf f) n ((s.sampleMotion f raw).posOf f) := by
  have other : ¬(((s.sensed f raw).drives f).stateOf f).servoed := fun hs => h (State.windowTest_servoed hs).1
  rw [State.posOf, s.sampleMotion_track, s.sampleMotion_eq, State.windowTest_other other, State.drives_stateOf,
    State.drives_fader]
  exact ⟨_, _, rfl⟩

/-- A calibration phase's own level, open loop (R82, R83). -/
theorem State.sampleMotion_finding {p : CalPhase} (h : (s.sampleMotion f raw).stateOf f = .calibrating p)
    (hp : (FaderState.calibrating p).driven = true) :
    ((s.sampleMotion f raw).fader f).motion.drive = p.drive ∧
      ((s.sampleMotion f raw).fader f).motion.setpoint = (s.sampleMotion f raw).posOf f := by
  obtain ⟨m, n, e⟩ := s.sampleMotion_other f raw (by rw [h]; rintro (h | h) <;> cases h)
  rw [e, h]
  exact Motion.sample_finding m n _ hp

theorem State.sampleMotion_undriven (h : ((s.sampleMotion f raw).stateOf f).driven = false) :
    ((s.sampleMotion f raw).fader f).motion = Motion.at ((s.sampleMotion f raw).posOf f) := by
  obtain ⟨m, n, e⟩ := s.sampleMotion_other f raw (by rintro (k | k) <;> rw [k] at h <;> cases h)
  rw [e, Motion.sample_undriven _ _ _ h]

/-- While each running recall has an open entry, so it has at a sample's end of motion where the motor is driven. -/
theorem State.recallsOpen_sampleMotion {s : State} {f : FaderIx} {raw : BitVec 12} (h : s.recallsOpen)
    (hd : ((s.sampleMotion f raw).stateOf f).driven = true) : (s.sampleMotion f raw).recallsOpen := by
  have driven : ((s.sensed f raw).stateOf f).driven = true := by
    rwa [s.sampleMotion_eq, (State.windowTest_motion _ f).1, State.drives_stateOf] at hd
  have kept : (s.sampleMotion f raw).recalls = (s.sensed f raw).recalls := by simp [s.sampleMotion_eq]
  have timed : ((s.closeFullWindow f).sampleTime f).recallsOpen := State.recallsOpen_closeFullWindow f h
  rw [State.recallsOpen, kept]
  rcases State.recallsOpen_sense f raw timed with ho | hp
  · exact ho
  · rw [show (s.sensed f raw).stateOf f = .parked from hp] at driven
    cases driven

end sampled

end Sys2Proof.Machine
end

section
namespace Sys2Proof.Machine

/-! ## The end of a sample: a fader that stays in its state keeps its motion -/

/-- The motion items with the motor off (R42). -/
def Motion.off (m : Motion) : Motion := { m with ramp := .none, drive := 0, settleCount := 0, granted := none }

/-- What the Fault Monitor does to a fader's motion: nothing, and to the recalls neither; or the fader is FAULTED with
the motor off (R36). -/
def State.Monitors (f : FaderIx) (s t : State) : Prop :=
  (t.stateOf f = s.stateOf f ∧ (t.fader f).motion = (s.fader f).motion ∧ t.recalls = s.recalls) ∨
    (t.stateOf f = .faulted ∧ (t.fader f).motion = (s.fader f).motion.off)

theorem State.Monitors.trans {f : FaderIx} {s t u : State} (h : Monitors f s t) (k : Monitors f t u) :
    Monitors f s u := by
  rcases h with ⟨hs, hm, hr⟩ | ⟨hs, hm⟩
  · rcases k with ⟨ks, km, kr⟩ | ⟨ks, km⟩
    · exact .inl ⟨ks.trans hs, km.trans hm, kr.trans hr⟩
    · exact .inr ⟨ks, by rw [km, hm]⟩
  · rcases k with ⟨ks, km, -⟩ | ⟨ks, km⟩
    · exact .inr ⟨ks.trans hs, km.trans hm⟩
    · exact .inr ⟨ks, by rw [km, hm]; rfl⟩

/-- A lane disabled is emptied; last consumed time and chase glide are kept (R135). -/
theorem State.disableLane_fader (s : State) (f : FaderIx) (r : Option LaneReason) :
    (s.disableLane f r).fader f = { s.fader f with
      lane := if (s.fader f).lane.enabled then
        { (s.fader f).lane with
          enabled := false, queue := [], current := none, value := none, segment := none, starved := false }
        else (s.fader f).lane } := by
  simp only [State.disableLane]
  split
  · split <;> simp
  · rfl

@[simp] theorem State.endCalibration_motion (s : State) (f : FaderIx) (o : CalOutcome) (n : Option Int) :
    ((s.endCalibration f o n).fader f).motion = (s.fader f).motion := by
  unfold State.endCalibration; split <;> simp

/-- The grant rule and the evaluation of a lead leave the motion of a fader that is not queued. -/
theorem State.motion_evalLead_grant (s : State) {x f : FaderIx} (h : (s.stateOf f).queued = false) :
    (((s.evalLead x).grant).fader f).motion = (s.fader f).motion := by
  have lead := s.evalLead_sameButRecord x f
  rw [(Spares.grant _ (by rwa [State.stateOf, lead.state])).fader]
  obtain ⟨r, -, e⟩ := lead
  rw [e]

/-- A fault latched takes the fader to FAULTED with the motor off (R36, R75). -/
theorem State.faultRecord_monitors (s : State) (f : FaderIx) : Monitors f s (s.faultRecord f) := by
  unfold State.faultRecord
  extract_lets old st s1 s2 s3 s4
  have ended : (s1.fader f).motion = (s.fader f).motion := by unfold s1; split <;> simp [State.disableLane_fader]
  have off : (s4.claimEnded f old).stateOf f = .faulted ∧ ((s4.claimEnded f old).fader f).motion = (s.fader f).motion.off := by
    have faulted : (s4.fader f) = (s2.fader f) := by unfold s4 s3; split <;> simp
    rw [State.stateOf, State.claimEnded_fader, faulted]
    simp [s2, State.goTo_fader, FaderState.driven, ended, Motion.off]
  have idle : ((s4.claimEnded f old).stateOf f).queued = false := by rw [off.1]; rfl
  exact .inr ⟨(State.stateOf_evalLead_grant _ idle).trans off.1, (State.motion_evalLead_grant _ idle).trans off.2⟩

theorem State.latchIfWatched_monitors (s : State) (f : FaderIx) (c : Cond) : Monitors f s (s.latchIfWatched f c) := by
  unfold State.latchIfWatched State.latch
  split
  · extract_lets x t
    have noted : Monitors f s t := .inl ⟨by simp [t, State.stateOf], by simp [t], rfl⟩
    split
    · exact .inl ⟨rfl, rfl, rfl⟩
    · split
      · exact noted.trans (t.faultRecord_monitors f)
      · exact noted
  · exact .inl ⟨rfl, rfl, rfl⟩

theorem State.modFault_monitors (s : State) (f : FaderIx) (g : FaultItems → FaultItems) : Monitors f s (s.modFault f g) :=
  .inl ⟨by simp [State.stateOf], by simp, rfl⟩

/-- The Fault Monitor at a sample (R72 to R75). -/
theorem State.monitor_monitors (s : State) (f : FaderIx) (active finding : Bool) :
    Monitors f s (s.monitor f active finding) := by
  have tested (s : State) (g : FaultItems → FaultItems) (c : Cond) : Monitors f s ((s.modFault f g).latchIfWatched f c) :=
    (s.modFault_monitors f g).trans (State.latchIfWatched_monitors _ f c)
  unfold State.monitor
  have stall : Monitors f s (s.stallSample f) := tested s _ _
  have track : Monitors f (s.stallSample f) ((s.stallSample f).trackSample f finding) := by
    unfold State.trackSample
    split
    · exact .inl ⟨rfl, rfl, rfl⟩
    · exact tested _ _ _
  exact (stall.trans track).trans (tested _ _ _)

/-- A fader has left the state `st`, for one from which no hand-out takes it back there. -/
def State.Left (f : FaderIx) (st : FaderState) (t : State) : Prop :=
  t.stateOf f ≠ st ∧ ((t.stateOf f).aloof = true ∨ (t.stateOf f).seeking = true ∧ st.seeking = false)

theorem State.Left.faulted {f : FaderIx} {st : FaderState} {t : State} (h : t.stateOf f = .faulted) (hst : st.driven = true) :
    Left f st t := by
  rw [Left, h]
  exact ⟨(by rintro rfl; cases hst), .inl rfl⟩

theorem State.Left.monitors {f : FaderIx} {st : FaderState} {t u : State} (h : Left f st t) (hst : st.driven = true)
    (k : Monitors f t u) : Left f st u := by
  rcases k with ⟨ks, -, -⟩ | ⟨ks, -⟩
  · rwa [Left, ks]
  · exact .faulted ks hst

theorem State.Left.settleRecalls {f : FaderIx} {st : FaderState} {t : State} (h : Left f st t) :
    t.settleRecalls.stateOf f ≠ st := by
  have out := HandsOut.settleRecalls (f := f) t
  rcases h with ⟨hne, ha | ⟨hs, hst⟩⟩
  · rwa [State.stateOf, (out.spares ha).fader]
  · rintro rfl
    exact absurd (out.permits.seeking hs) (Bool.eq_false_iff.1 hst)

theorem State.parkCalibrated_stateOf (s : State) (f : FaderIx) : (s.parkCalibrated f).stateOf f = .parked := by
  have parked : (s.parkHere f).stateOf f = .parked := by simp [State.parkHere, State.stateOf, State.goTo_fader]
  rw [State.parkCalibrated, State.stateOf_evalLead_grant _ (by rw [parked]; rfl), parked]

/-- The end of the up phase leads to CAL-REVIEW, or with a bad span to PARKED (R83). -/
theorem State.calUpEnds_left (s : State) (f : FaderIx) : Left f (.calibrating .calUp) (s.calUpEnds f) := by
  simp only [State.calUpEnds]
  split
  · have review (t : State) (g : FaderRecord → FaderRecord) (hg : ∀ r, (g r).state = r.state) (n : Notice) :
        ((((t.goTo f (.calibrating .calReview)).modRecord f g).raise n).grant).stateOf f = .calibrating .calReview := by
      have : (((t.goTo f (.calibrating .calReview)).modRecord f g).raise n).stateOf f = .calibrating .calReview := by
        simp [State.stateOf, State.goTo_fader, hg]
      rw [State.stateOf_grant _ (by rw [this]; rfl), this]
    rw [Left, review]
    · exact ⟨nofun, .inl rfl⟩
    · exact fun _ => rfl
  · rw [Left, State.parkCalibrated_stateOf]
    exact ⟨nofun, .inr ⟨rfl, rfl⟩⟩

/-- A calibration phase at a sample: its end or its time limit leaves the phase; otherwise the motor runs on (R82 to
R84). -/
theorem State.calSample_finding (s : State) (f : FaderIx) (h : (s.stateOf f).finding = true) :
    Left f (s.stateOf f) (s.calSample f) ∨
      ((s.calSample f).stateOf f = s.stateOf f ∧ ((s.calSample f).fader f).motion = (s.fader f).motion ∧
        (s.calSample f).recalls = s.recalls) := by
  have runs : (s.calMoves f).stateOf f = s.stateOf f ∧ ((s.calMoves f).fader f).motion = (s.fader f).motion ∧
      (s.calMoves f).recalls = s.recalls := ⟨by simp [State.calMoves, State.stateOf], by simp [State.calMoves], rfl⟩
  cases hs : s.stateOf f with
  | calibrating p =>
    have ends : Left f (.calibrating p) (s.calTimeout f) := by
      rw [Left, show (s.calTimeout f).stateOf f = .parked from State.parkCalibrated_stateOf _ f]
      refine ⟨nofun, .inr ⟨rfl, rfl⟩⟩
    rw [hs] at runs
    cases p with
    | calDown =>
      simp only [State.calSample, hs]
      split
      · refine .inl ?_
        have : (s.calDownEnds f).stateOf f = .calibrating .calUp := by
          simp [State.calDownEnds, State.stateOf, State.enterCalPhase_fader _ f (p := .calUp) rfl]
        rw [Left, this]
        exact ⟨nofun, .inl rfl⟩
      · split
        · exact .inl ends
        · exact .inr runs
    | calUp =>
      simp only [State.calSample, hs]
      split
      · exact .inl (s.calUpEnds_left f)
      · split
        · exact .inl ends
        · exact .inr runs
    | _ => simp [hs, FaderState.finding] at h
  | _ => simp [hs, FaderState.finding] at h

theorem State.sampleEnds_eq (p : State) (f : FaderIx) (active : Bool) : p.sampleEnds f active false =
    (((p.arriveIfDue f).calSample f).monitor f active (p.stateOf f).finding).settleRecalls := rfl

/-- Outside CAL-DOWN and CAL-UP the Calibration Sequencer makes no test. -/
theorem State.calSample_other {s : State} {f : FaderIx} (h : (s.stateOf f).finding = false) : s.calSample f = s := by
  unfold State.calSample
  split
  · rename_i e; rw [e] at h; cases h
  · rename_i e; rw [e] at h; cases h
  · rfl

/-- No arrival is due outside SETTLE (R50). -/
theorem State.arriveIfDue_other {s : State} {f : FaderIx} (h : s.stateOf f ≠ .settle) : s.arriveIfDue f = s := by
  simp [State.arriveIfDue, State.arrivalDue, h]

/-- Arrival and calibration at a sample: the fader has left its state, or state, motion and recalls are as before. -/
theorem State.sampleEnds_middle (p : State) (f : FaderIx) :
    Left f (p.stateOf f) ((p.arriveIfDue f).calSample f) ∨
      (((p.arriveIfDue f).calSample f).stateOf f = p.stateOf f ∧
        (((p.arriveIfDue f).calSample f).fader f).motion = (p.fader f).motion ∧
        ((p.arriveIfDue f).calSample f).recalls = p.recalls) := by
  by_cases hs : p.stateOf f = .settle
  · by_cases due : p.arrivalDue f = true
    · have parked := p.arrive_stateOf f
      rw [State.arriveIfDue, if_pos due, State.calSample_other (by rw [parked]; rfl), Left, parked, hs]
      exact .inl ⟨nofun, .inr ⟨rfl, rfl⟩⟩
    · rw [State.arriveIfDue, if_neg due, State.calSample_other (by rw [hs]; rfl)]
      exact .inr ⟨rfl, rfl, rfl⟩
  · rw [State.arriveIfDue_other hs]
    by_cases hf : (p.stateOf f).finding = true
    · exact p.calSample_finding f hf
    · rw [State.calSample_other (by simpa using hf)]
      exact .inr ⟨rfl, rfl, rfl⟩

/-- The end of a sample taken in TRAVEL, SETTLE, CAL-DOWN or CAL-UP before the recalls are settled: the fader has left
the state, or state, motion and recalls are as they were. -/
theorem State.sampleEnds_motion_driven (p : State) (f : FaderIx) (active : Bool) (hd : (p.stateOf f).driven = true)
    (hr : p.recallsOpen) (h : (p.sampleEnds f active false).stateOf f = p.stateOf f) :
    ((p.sampleEnds f active false).fader f).motion = (p.fader f).motion := by
  rw [State.sampleEnds_eq] at h ⊢
  have watched := State.monitor_monitors ((p.arriveIfDue f).calSample f) f active (p.stateOf f).finding
  rcases p.sampleEnds_middle f with left | ⟨ms, mm, mr⟩
  · exact absurd h (left.monitors hd watched).settleRecalls
  · rcases watched with ⟨ks, km, kr⟩ | ⟨ks, -⟩
    · rw [State.settleRecalls_open (by rwa [State.recallsOpen, kr, mr]), km, mm]
    · exact absurd h (State.Left.faulted ks hd).settleRecalls

/-- The end of a sample taken in a state that is not driven. -/
theorem State.sampleEnds_motion_undriven (p : State) (f : FaderIx) (active : Bool) (hd : (p.stateOf f).driven = false)
    (hm : (p.fader f).motion = Motion.at (p.posOf f)) (h : (p.sampleEnds f active false).stateOf f = p.stateOf f) :
    ((p.sampleEnds f active false).fader f).motion = (p.fader f).motion := by
  have settle : p.stateOf f ≠ .settle := by intro e; rw [e] at hd; cases hd
  have finding : (p.stateOf f).finding = false := by
    cases hs : p.stateOf f with
    | calibrating q => cases q <;> simp_all [FaderState.finding, FaderState.driven]
    | _ => rfl
  have track : ((p.sampleEnds f active false).fader f).track = (p.fader f).track :=
    State.track_of_base (State.base_sampleEnds p f active false) f
  have before : ((p.monitor f active (p.stateOf f).finding).fader f).levelled := by
    have same := State.track_of_base (State.base_monitor p f active (p.stateOf f).finding) f
    have level : ((p.monitor f active (p.stateOf f).finding).fader f).motion = Motion.at (p.posOf f) := by
      rcases p.monitor_monitors f active (p.stateOf f).finding with ⟨-, km, -⟩ | ⟨-, km⟩
      · rw [km, hm]
      · rw [km, hm]; rfl
    rw [Fader.levelled, level, same]
    exact ⟨rfl, fun _ => rfl⟩
  rw [State.sampleEnds_eq, State.arriveIfDue_other settle, State.calSample_other finding] at h track ⊢
  have after := (HandsOut.settleRecalls (f := f) _).permits.levelled before
  rw [hm, State.posOf, ← track]
  exact after.2 ((congrArg FaderState.driven h).trans hd)

end Sys2Proof.Machine
end

section
namespace Sys2Proof.Machine

/-! ## The items a sample leaves (R1 to R6, R63, R64) -/

section sensed
variable (s : State) (f : FaderIx) (raw : BitVec 12)

/-- The window closed before the sample leaves the track items and the clock. -/
theorem State.closeFullWindow_track : ((s.closeFullWindow f).fader f).track = (s.fader f).track := by
  rw [State.track_of_base (s.base_closeFullWindow f), State.modHeat_fader]
theorem State.closeFullWindow_now : (s.closeFullWindow f).now = s.now := by
  rw [State.now_of_base (s.base_closeFullWindow f)]; rfl
theorem State.closeFullWindow_settings : (s.closeFullWindow f).settings = s.settings := by
  rw [State.settings_of_base (s.base_closeFullWindow f)]; rfl

/-- A sample comes 0.5 ms after the last one, or at the present time when that is later (R1; log entry 3). -/
theorem State.sensed_now : (s.sensed f raw).now = max s.now (s.fader f).track.nextSample := by
  rw [State.sensed, State.now_of_base (State.base_sense _ f raw)]
  change max (s.closeFullWindow f).now ((s.closeFullWindow f).fader f).track.nextSample = _
  rw [s.closeFullWindow_now, s.closeFullWindow_track]

theorem State.sensed_track : ((s.sensed f raw).fader f).track =
    Track.sensed { (s.fader f).track with nextSample := max s.now (s.fader f).track.nextSample + 3 }
      (s.config f).calLow (s.config f).calHigh raw.toNat := by
  have config : ((s.closeFullWindow f).sampleTime f).config f = s.config f :=
    congrArg (fun c : Settings => c.faders[f.val]) (s.closeFullWindow_settings f)
  have timed : (((s.closeFullWindow f).sampleTime f).fader f).track =
      { (s.fader f).track with nextSample := max s.now (s.fader f).track.nextSample + 3 } := by
    rw [State.sampleTime, State.modTrack_fader]
    change { ((s.closeFullWindow f).fader f).track with
      nextSample := max (s.closeFullWindow f).now ((s.closeFullWindow f).fader f).track.nextSample + 3 } = _
    rw [s.closeFullWindow_now, s.closeFullWindow_track]
  rw [State.sensed, State.track_of_base (State.base_sense _ f raw), State.modTrack_fader, config, timed]

theorem State.sensed_heat : ((s.sensed f raw).fader f).heat = (s.fader f).heat.closedIfFull := by
  have timed : (((s.closeFullWindow f).sampleTime f).fader f).heat = ((s.closeFullWindow f).fader f).heat := by
    rw [State.sampleTime, State.modTrack_fader]
    rfl
  rw [State.sensed, State.heat_of_base (State.base_sense _ f raw), State.modTrack_fader, timed,
    State.heat_of_base (s.base_closeFullWindow f), State.modHeat_fader]

theorem State.sensed_samplesOnly : SamplesOnly f s (s.sensed f raw) := by
  have closed : SamplesOnly f s (s.closeFullWindow f) :=
    (SamplesOnly.modHeat s Heat.closedIfFull).trans (.of_base (s.base_closeFullWindow f))
  exact (closed.trans (.sampleTime _)).trans ((SamplesOnly.modTrack _ _).trans (.of_base (State.base_sense _ f raw)))

theorem State.sampleMotion_samplesOnly : SamplesOnly f s (s.sampleMotion f raw) := by
  have motion (t : State) (g : Motion → Motion) : SamplesOnly f t (t.modMotion f g) := .of_base (t.base_modMotion f g)
  exact (((s.sensed_samplesOnly f raw).trans (motion _ _)).trans (.modHeat _ _)).trans
    (.of_base (State.base_windowTest _ f))

theorem State.sampleMotion_now : (s.sampleMotion f raw).now = max s.now (s.fader f).track.nextSample := by
  rw [s.sampleMotion_eq, State.now_of_base (State.base_windowTest _ f), State.drives_now, s.sensed_now]

end sensed

/-- The calibration window of R2. -/
theorem classify_eq (low high raw : Nat) :
    classify low high raw = if low ≤ raw + 200 ∧ raw ≤ high + 200 then .inWindow else .outOfWindow := rfl

section track
variable (t : Track) {low high raw : Nat}

@[simp] theorem Track.sensed_raw (low high raw : Nat) : (t.sensed low high raw).raw = raw := by
  unfold Track.sensed Track.firstSample Track.sample
  split <;> (try split) <;> rfl
@[simp] theorem Track.sensed_cls (low high raw : Nat) : (t.sensed low high raw).cls = classify low high raw := by
  unfold Track.sensed Track.firstSample Track.sample
  split <;> (try split) <;> simp_all
@[simp] theorem Track.sensed_first (low high raw : Nat) : (t.sensed low high raw).first = false := by
  unfold Track.sensed Track.firstSample Track.sample
  split <;> (try split) <;> rfl
@[simp] theorem Track.sensed_nextSample (low high raw : Nat) : (t.sensed low high raw).nextSample = t.nextSample := by
  unfold Track.sensed Track.firstSample Track.sample
  split <;> (try split) <;> rfl

/-- An IN-WINDOW reading is mapped, and stands as the last valid position (R3, R4). -/
theorem Track.sensed_inside (h : low ≤ raw + 200 ∧ raw ≤ high + 200) :
    (t.sensed low high raw).pos = mapRaw low high raw ∧ (t.sensed low high raw).lastValid = mapRaw low high raw := by
  have cls : classify low high raw = .inWindow := by rw [classify_eq, if_pos h]
  unfold Track.sensed Track.firstSample Track.sample firstPosition
  split <;> simp [cls]

/-- An OUT-OF-WINDOW reading leaves the last valid position in force (R4). -/
theorem Track.sensed_outside (h : ¬(low ≤ raw + 200 ∧ raw ≤ high + 200)) (hf : t.first = false) :
    (t.sensed low high raw).pos = t.lastValid ∧ (t.sensed low high raw).lastValid = t.lastValid := by
  have cls : classify low high raw = .outOfWindow := by rw [classify_eq, if_neg h]
  simp [Track.sensed, Track.sample, hf, cls]

/-- A first sample that is OUT-OF-WINDOW gives an end of travel (R6). -/
theorem Track.sensed_first_outside (h : ¬(low ≤ raw + 200 ∧ raw ≤ high + 200)) (hf : t.first = true) :
    (t.sensed low high raw).pos = (if raw + 200 < low then 0 else 1023) ∧
      (t.sensed low high raw).lastValid = (t.sensed low high raw).pos := by
  have cls : classify low high raw = .outOfWindow := by rw [classify_eq, if_neg h]
  simp [Track.sensed, Track.firstSample, firstPosition, hf, cls]

end track

/-! ## The mapped position and the drive level as numbers (R3, R47) -/

/-- The mapped position before it is limited: the quotient rounded to the nearest step, halves toward the top. -/
theorem mapRaw_eq {low high raw : Nat} {q : Int}
    (hq : (2 * (((raw : Int) - low) * 1023) + ((high : Int) - low)) / (2 * ((high : Int) - low)) = q) :
    mapRaw low high raw = (min 1023 (max 0 q)).toNat := by
  rw [← hq]; rfl

/-- R3: the nearest step, halves toward the top, limited to 0-1023. -/
theorem mapRaw_nearest (low high raw : Nat) (h : low < high) :
    let p := mapRaw low high raw
    let d : Int := (high : Int) - low
    let x : Int := ((raw : Int) - low) * 1023
    p ≤ 1023 ∧ (0 ≤ x → x ≤ 1023 * d → 2 * x - d < 2 * (p * d) ∧ 2 * (p * d) ≤ 2 * x + d) ∧
      (x < 0 → p = 0) ∧ (1023 * d < x → p = 1023) := by
  intro p d x
  have hd : 0 < d := by omega
  obtain ⟨q, hq⟩ : ∃ q, (2 * x + d) / (2 * d) = q := ⟨_, rfl⟩
  have hp : p = (min 1023 (max 0 q)).toNat := mapRaw_eq hq
  have below : q * (2 * d) ≤ 2 * x + d := hq ▸ Int.ediv_mul_le _ (by omega)
  have above : 2 * x + d < (q + 1) * (2 * d) := hq ▸ Int.lt_ediv_add_one_mul_self _ (by omega)
  refine ⟨by omega, fun h0 h1 => ?_, fun hx => ?_, fun hx => ?_⟩
  · have q_nonneg : 0 ≤ q := by nlinarith
    have q_le : q ≤ 1023 := by nlinarith
    have : (p : Int) = q := by omega
    rw [this]
    constructor <;> nlinarith
  · have : q ≤ 0 := by nlinarith
    omega
  · have : 1023 ≤ q := by nlinarith
    omega

/-- R47: 4 % a step, limited to 100 %. -/
theorem servoDrive_limits (setpoint pos : Nat) :
    let e : Int := (setpoint : Int) - pos
    (-25 ≤ e → e ≤ 25 → servoDrive setpoint pos = 4 * e) ∧ (25 ≤ e → servoDrive setpoint pos = 100) ∧
      (e ≤ -25 → servoDrive setpoint pos = -100) := by
  unfold servoDrive
  refine ⟨fun _ _ => ?_, fun _ => ?_, fun _ => ?_⟩ <;> omega

/-- R16, R47: FDA carries a positive level and FDB the magnitude of a negative one, in a driven state only. -/
theorem State.outputs_of_drive (s : State) (f : FaderIx) :
    ((s.stateOf f).driven = false → s.fda f = 0 ∧ s.fdb f = 0) ∧
      ((s.stateOf f).driven = true →
        (s.fda f : Int) - s.fdb f = (s.fader f).motion.drive ∧ (s.fda f = 0 ∨ s.fdb f = 0)) := by
  unfold State.fda State.fdb
  refine ⟨fun h => by simp [h], fun h => ?_⟩
  simp only [h, if_true]
  omega

/-- The heat items after a sample: a full window is closed first, and the sample's level is added (R63, R64). -/
theorem Heat.closedIfFull_addSample (w : Heat) (drive : Int) (held : Bool) :
    w.closedIfFull.addSample drive held =
      if 20 ≤ w.samples then ⟨if 20 ≤ w.samples then w.after else w.heat, drive.natAbs, held, 1, drive⟩
      else ⟨if 20 ≤ w.samples then w.after else w.heat, w.sum + drive.natAbs, w.held || held, w.samples + 1, drive⟩ := by
  unfold Heat.closedIfFull
  split <;> simp [Heat.addSample, Heat.closeWindow]

/-- The motion items at the end of a sample that leaves the fader's state as it was at the end of its motion part. -/
theorem State.sampleEnds_motion (s : State) (f : FaderIx) (raw : BitVec 12) (active : Bool) (hr : s.recallsOpen)
    (h : ((s.sampleMotion f raw).sampleEnds f active false).stateOf f = (s.sampleMotion f raw).stateOf f) :
    (((s.sampleMotion f raw).sampleEnds f active false).fader f).motion = ((s.sampleMotion f raw).fader f).motion := by
  cases hd : ((s.sampleMotion f raw).stateOf f).driven with
  | true => exact State.sampleEnds_motion_driven _ f active hd (State.recallsOpen_sampleMotion hr hd) h
  | false => exact State.sampleEnds_motion_undriven _ f active hd (s.sampleMotion_undriven f raw hd) h

/-- The motor off at a position (R41, R42). -/
theorem Motion.items_of_at {m : Motion} {pos : Nat} (h : m = Motion.at pos) :
    m.drive = 0 ∧ m.setpoint = pos ∧ m.ramp = .none := by
  subst h
  exact ⟨rfl, rfl, rfl⟩

/-- Settles O39: the sample is followed through its sensing, its drive level and its heat, and the end of the sample
leaves the motion of a fader that stays in its state. -/
theorem servoSampleSensesAndDrives : Obligations.ServoSampleSensesAndDrives := by
  refine ⟨fun f raw active s ready => ?_, mapRaw_nearest, servoDrive_limits, fun f s => s.outputs_of_drive f⟩
  intro x c inside
  have ends := State.base_sampleEnds (s.sampleMotion f raw) f active false
  have only := (s.sampleMotion_samplesOnly f raw).trans (.of_base ends)
  have now := (State.now_of_base ends).trans (s.sampleMotion_now f raw)
  have track := (State.track_of_base ends f).trans ((s.sampleMotion_track f raw).trans (s.sensed_track f raw))
  have pos : ((s.sampleMotion f raw).sampleEnds f active false).posOf f = (s.sampleMotion f raw).posOf f :=
    congrArg Track.pos (State.track_of_base ends f)
  refine ⟨(s.sampleMotion f raw).sampleEnds f active false, ?_, now, ?_, ?_, ?_, ?_, ?_, ?_, ?_, only.others, only.touch,
    only.rest, rfl, (State.track_of_base ends f).symm, ?_, ?_, ?_, ?_, s.sampleEnds_motion f raw active, ?_⟩
  case refine_1 =>
    change Host.Outcome.next (if s.part = .ready then s.servoSampleAt f raw active else s) = _
    rw [if_pos ready]
    rfl
  case refine_2 => rw [track, Track.sensed_raw]
  case refine_3 => rw [track, Track.sensed_cls, classify_eq]
  case refine_4 => rw [track, Track.sensed_first]
  case refine_5 => rw [track, Track.sensed_nextSample, now]
  case refine_6 =>
    intro h
    rw [State.posOf, track, (Track.sensed_inside _ h).1]
    exact ⟨rfl, (Track.sensed_inside _ h).2⟩
  case refine_7 =>
    intro h hf
    rw [State.posOf, track]
    exact Track.sensed_outside _ h hf
  case refine_8 =>
    intro h hf
    rw [State.posOf, track]
    exact Track.sensed_first_outside _ h hf
  case refine_9 =>
    intro h
    rw [pos]
    exact s.sampleMotion_servoed f raw h
  case refine_10 =>
    intro h
    rw [pos]
    exact s.sampleMotion_finding f raw h rfl
  case refine_11 =>
    intro h
    rw [pos]
    exact s.sampleMotion_finding f raw h rfl
  case refine_12 =>
    intro h
    rw [pos]
    exact Motion.items_of_at (s.sampleMotion_undriven f raw h)
  case refine_13 =>
    rw [State.heat_of_base ends, s.sampleMotion_heat, s.sensed_heat, Heat.closedIfFull_addSample]
    rfl

end Sys2Proof.Machine
end

section
namespace Sys2Proof.Machine

/-! ## Touch samples (R7 to R9) -/

section debounce
variable {s : State} {f : FaderIx}

theorem State.debounce_off_absent (h : (s.fader f).touch.on = false) :
    s.debounce f false = s.modTouch f fun t => { t with present := 0 } := by
  simp [State.debounce, h]
theorem State.debounce_off_counts (h : (s.fader f).touch.on = false) (hn : (s.fader f).touch.present < 6) :
    s.debounce f true = s.modTouch f fun t => { t with present := (s.fader f).touch.present + 1 } := by
  simp only [State.debounce, h, if_neg (Nat.not_le.2 hn)]
  exact State.modFader_congr rfl
theorem State.debounce_off_completes (h : (s.fader f).touch.on = false) (hn : 6 ≤ (s.fader f).touch.present) :
    s.debounce f true = s.touchBecomesOn f := by
  simp [State.debounce, h, hn]
theorem State.debounce_on_present (h : (s.fader f).touch.on = true) :
    s.debounce f true = s.modTouch f fun t => { t with absent := 0 } := by
  simp [State.debounce, h]
theorem State.debounce_on_counts (h : (s.fader f).touch.on = true) (hn : (s.fader f).touch.absent < 50) :
    s.debounce f false = s.modTouch f fun t => { t with absent := (s.fader f).touch.absent + 1 } := by
  simp only [State.debounce, h, if_neg (Nat.not_le.2 hn)]
  exact State.modFader_congr rfl
theorem State.debounce_on_completes (h : (s.fader f).touch.on = true) (hn : 50 ≤ (s.fader f).touch.absent) :
    s.debounce f false = s.touchBecomesOff f := by
  simp [State.debounce, h, hn]

end debounce

/-- A touch sample moves the clock and the time of the next one, and nothing else of the fader sampled (R7). -/
theorem State.touchTime_fader (s : State) (f : FaderIx) : (s.touchTime f).fader f = { s.fader f with
    touch := { (s.fader f).touch with nextSample := max s.now (s.fader f).touch.nextSample + 3 } } := by
  rw [State.touchTime, State.modTouch_fader]; rfl

/-- A fader's captures after one more (R11). -/
theorem Touch.addCapture_eq (t : Touch) (c : Capture) : t.addCapture c =
    { t with
      captures := if t.captures.length < 2 then t.captures ++ [c] else t.captures
      lost := t.lost || decide (2 ≤ t.captures.length) } := by
  unfold Touch.addCapture
  split
  · rename_i h
    simp [Nat.not_le.2 h]
  · rename_i h
    simp [Nat.not_lt.1 h]

theorem State.capture_fader (s : State) (f : FaderIx) (on : Bool) : (s.capture f on).fader f =
    { s.fader f with touch := (s.fader f).touch.addCapture ⟨on, s.posOf f, s.timeline.count⟩ } := by
  rw [State.capture, State.fader_raise, State.modTouch_fader]

@[simp] theorem State.capture_stateOf (s : State) (f : FaderIx) (on : Bool) :
    (s.capture f on).stateOf f = s.stateOf f := by
  rw [State.stateOf, State.capture_fader]; rfl
@[simp] theorem State.capture_recalls (s : State) (f : FaderIx) (on : Bool) : (s.capture f on).recalls = s.recalls := rfl
@[simp] theorem State.capture_groups (s : State) (f : FaderIx) (on : Bool) : (s.capture f on).groups = s.groups := rfl

/-- A capture raises its notice (R10). -/
theorem State.capture_raises (s : State) (f : FaderIx) (on : Bool) : Notice.capture f ∈ (s.capture f on).notices :=
  mem_raiseInto _ _ nofun

/-- A pending notice that is not a capture's stays pending through one. -/
theorem State.mem_capture {s : State} {f : FaderIx} {n : Notice} (on : Bool) (hn : n ∈ s.notices)
    (hk : n.key ≠ .fader f .capture) : n ∈ (s.capture f on).notices := mem_raiseInto_of_ne hn hk

/-- A pending notice that is not a MOVE notice stays pending through the MOVE test. -/
theorem State.mem_moveTest {s : State} {f : FaderIx} {n : Notice} (hn : n ∈ s.notices)
    (hk : n.key ≠ .fader f .move) : n ∈ (s.moveTest f).notices := by
  unfold State.moveTest
  split
  · exact mem_raiseInto_of_ne hn hk
  · exact hn

theorem State.mem_entryTest {s : State} {f : FaderIx} {n : Notice} (q : Bool) (hn : n ∈ s.notices)
    (hk : n.key ≠ .fader f .move) : n ∈ (s.entryTest f q).notices := by
  unfold State.entryTest
  split
  · exact hn
  · exact State.mem_moveTest hn hk

/-- The lead evaluated and slots granted: a fader without a FOLLOW claim, or not PARKED, that is not queued is spared. -/
theorem State.Spares.evalLead_grant {s : State} {f : FaderIx} (x : FaderIx)
    (h : (s.claimOf f).isFollow = false ∨ s.stateOf f ≠ .parked) (hq : (s.stateOf f).queued = false) :
    Spares f s ((s.evalLead x).grant) := by
  have lead := evalLead s x h
  exact lead.trans (grant _ (by rwa [State.stateOf, lead.fader]))

/-! ## TOUCH-ON at the record (R22, R23) -/

/-- TOUCH-ON at a fader that takes claims, as far as the lead of its group (R22). -/
def State.touchTaken (s : State) (f : FaderIx) : State :=
  let old := s.claimOf f
  let s1 := if old.isLane then
      s.modRecord f fun r => { r with claim := .lane true, planned := none, deadline := none, expiry := none }
    else (s.reportEnd f .overridden).clearClaim f
  let s2 := ((s1.goTo f .touched).holdHere f).entryTest f (decide (old = .direct))
  let s3 := if s.stateOf f = .rest then s2.raise (.rest f false .touch) else s2
  if old.isLane then s3 else s3.claimEnded f old

theorem State.touchOnRecord_takes {s : State} {f : FaderIx} (h : (s.stateOf f).takesClaims = true) :
    s.touchOnRecord f = ((s.touchTaken f).evalLead f).grant := by
  unfold State.touchOnRecord State.touchTaken
  cases hs : s.stateOf f <;> simp_all [FaderState.takesClaims]

/-- The fader is TOUCHED at its position, the motor off, a LANE claim suspended and any other ended (R22). -/
theorem State.touchTaken_fader (s : State) (f : FaderIx) : (s.touchTaken f).fader f = { s.fader f with
    record := { (s.fader f).record with
      state := .touched, claim := if (s.claimOf f).isLane then .lane true else .none, target := s.posOf f,
      hold := s.posOf f, planned := none, deadline := none, expiry := none }
    motion := (s.fader f).motion.off } := by
  unfold State.touchTaken
  extract_lets old s1 s2 s3
  have told : (if old.isLane then s3 else s3.claimEnded f old).fader f = s2.fader f := by
    unfold s3
    split <;> split <;> simp
  have ended : s1.fader f = { s.fader f with record := { (s.fader f).record with
      claim := if old.isLane then .lane true else .none, planned := none, deadline := none, expiry := none } } := by
    unfold s1
    split <;> simp
  rw [told]
  simp only [s2, State.entryTest_fader, State.holdHere_fader, State.goTo_fader, FaderState.driven, State.posOf, ended]
  rfl

/-- Only the outcome of a recall entry reaches the recalls. -/
theorem State.touchTaken_recalls {s : State} {f : FaderIx} (h : (s.claimOf f).isLane = false) :
    (s.touchTaken f).recalls = (s.reportEnd f .overridden).recalls := by
  unfold State.touchTaken
  simp only [h, Bool.false_eq_true, if_false, State.claimEnded_recalls]
  split <;> simp

/-- A DIRECT claim's end is noticed (R22, R27). -/
theorem State.touchTaken_direct {s : State} {f : FaderIx} (h : s.claimOf f = .direct) :
    Notice.motion f .direct .overridden (s.posOf f) false ∈ (s.touchTaken f).notices := by
  have raised : Notice.motion f .direct .overridden (s.posOf f) false ∈ (s.reportEnd f .overridden).notices := by
    simp only [State.reportEnd, h]
    exact mem_raiseInto _ _ nofun
  have tested : Notice.motion f .direct .overridden (s.posOf f) false ∈ (((((s.reportEnd f .overridden).clearClaim f).goTo f
      .touched).holdHere f).entryTest f true).notices := by
    refine State.mem_entryTest _ ?_ nofun
    rw [State.holdHere_notices, State.goTo_notices, State.clearClaim_notices]
    exact raised
  simp only [State.touchTaken, h, Claim.isLane, decide_true, Bool.false_eq_true, if_false, State.claimEnded_notices]
  split
  · exact mem_raiseInto_of_ne tested nofun
  · exact tested

/-- TOUCH-ON at a calibration, as far as the lead of the fader's group (R23, R87). -/
def State.touchCalibrated (s : State) (f : FaderIx) : State :=
  ((((s.endCalibration f .touched none).goTo f .touched).clearClaim f).holdHere f).moveTest f

theorem State.touchOnRecord_calibrating {s : State} {f : FaderIx} {p : CalPhase} (h : s.stateOf f = .calibrating p) :
    s.touchOnRecord f = ((s.touchCalibrated f).evalLead f).grant := by
  simp only [State.touchOnRecord, h]
  rfl

theorem State.touchCalibrated_fader {s : State} {f : FaderIx} {p : CalPhase} (h : s.stateOf f = .calibrating p) :
    (s.touchCalibrated f).fader f = { s.fader f with
      record := { (s.fader f).record with
        state := .touched, claim := .none, target := s.posOf f, hold := s.posOf f, planned := none, deadline := none,
        expiry := none, pendingCal := none }
      motion := (s.fader f).motion.off, cal := none } := by
  have ended : (s.endCalibration f .touched none).fader f = { s.fader f with
      record := { (s.fader f).record with pendingCal := none }, cal := none } := by
    simp [State.endCalibration, h, FaderState.phase]
  simp [State.touchCalibrated, State.goTo_fader, FaderState.driven, State.posOf, ended, Motion.off]

/-- The calibration's end is noticed with its phase and the captured values (R87). -/
theorem State.touchCalibrated_cal {s : State} {f : FaderIx} {p : CalPhase} {c : CalRun} (h : s.stateOf f = .calibrating p)
    (hc : (s.fader f).cal = some c) : Notice.cal f .touched p c.low c.high none ∈ (s.touchCalibrated f).notices := by
  refine State.mem_moveTest ?_ nofun
  rw [State.holdHere_notices, State.clearClaim_notices, State.goTo_notices]
  simp only [State.endCalibration, h, FaderState.phase, hc, Option.bind_some]
  exact mem_raiseInto _ _ nofun

/-- After TOUCH-ON the fader is FAULTED still, or TOUCHED (R22, R23). -/
theorem State.touchOnRecord_stateOf (s : State) (f : FaderIx) :
    (s.touchOnRecord f).stateOf f = if s.stateOf f = .faulted then .faulted else .touched := by
  by_cases ht : (s.stateOf f).takesClaims = true
  · have touched : (s.touchTaken f).stateOf f = .touched := by rw [State.stateOf, s.touchTaken_fader]
    rw [State.touchOnRecord_takes ht, State.stateOf_evalLead_grant _ (by rw [touched]; rfl), touched, if_neg]
    intro h
    rw [h] at ht
    cases ht
  · cases hs : s.stateOf f with
    | touched => simp [State.touchOnRecord, hs]
    | faulted => simp [State.touchOnRecord, hs]
    | calibrating p =>
      have touched : (s.touchCalibrated f).stateOf f = .touched := by rw [State.stateOf, State.touchCalibrated_fader hs]
      rw [State.touchOnRecord_calibrating hs, State.stateOf_evalLead_grant _ (by rw [touched]; rfl), touched, if_neg nofun]
    | _ => simp [hs, FaderState.takesClaims] at ht

/-! ## A touch-on whole (R8, R10, R112) -/

/-- The state in which TOUCH-ON reaches Fader Control: the touch items set by R8. -/
def State.touchedOn (s : State) (f : FaderIx) : State :=
  s.modTouch f fun t => { t with on := true, present := 0, absent := 0 }


/-- After TOUCH-ON at the record, the capture and the completed recalls leave the fader but for its captures, and keep its
notices. -/
theorem State.touchBecomesOn_spares (s : State) (f : FaderIx) :
    Spares f (((s.touchedOn f).touchOnRecord f).capture f true) (s.touchBecomesOn f) := by
  refine (HandsOut.settleRecalls _).spares ?_
  rw [State.capture_stateOf, State.touchOnRecord_stateOf]
  split <;> rfl

end Sys2Proof.Machine
end

section
namespace Sys2Proof.Machine

/-! ## What a touch-on leaves -/

section touchOn
variable {s : State} {f : FaderIx}

theorem State.touchedOn_fader (s : State) (f : FaderIx) : (s.touchedOn f).fader f =
    { s.fader f with touch := { (s.fader f).touch with on := true, present := 0, absent := 0 } } :=
  State.modTouch_fader _ _ _

/-- The touch items after a touch-on: state ON, counts 0, and a capture of the position and count in force (R8, R10, R11). -/
theorem State.touchBecomesOn_touch (s : State) (f : FaderIx) : ((s.touchBecomesOn f).fader f).touch =
    ⟨true, 0, 0,
      if (s.fader f).touch.captures.length < 2 then (s.fader f).touch.captures ++ [⟨true, s.posOf f, s.timeline.count⟩]
        else (s.fader f).touch.captures,
      (s.fader f).touch.lost || decide (2 ≤ (s.fader f).touch.captures.length), (s.fader f).touch.nextSample⟩ := by
  have base := State.base_touchOnRecord (s.touchedOn f) f
  have pos : ((s.touchedOn f).touchOnRecord f).posOf f = s.posOf f := by
    rw [State.posOf, State.track_of_base base, s.touchedOn_fader]; rfl
  have time : ((s.touchedOn f).touchOnRecord f).timeline = s.timeline := (State.timeline_of_base base :)
  rw [(s.touchBecomesOn_spares f).fader, State.capture_fader, State.touch_of_base base, s.touchedOn_fader, pos, time,
    Touch.addCapture_eq]

theorem State.touchBecomesOn_captures (s : State) (f : FaderIx) : Notice.capture f ∈ (s.touchBecomesOn f).notices :=
  (s.touchBecomesOn_spares f).notices _ (State.capture_raises _ f true) _ rfl

theorem State.touchBecomesOn_stateOf (s : State) (f : FaderIx) :
    (s.touchBecomesOn f).stateOf f = if s.stateOf f = .faulted then .faulted else .touched := by
  have state : (s.touchedOn f).stateOf f = s.stateOf f := by rw [State.stateOf, s.touchedOn_fader]; rfl
  rw [State.stateOf, (s.touchBecomesOn_spares f).fader, State.capture_fader, ← state]
  exact (s.touchedOn f).touchOnRecord_stateOf f

/-- What TOUCH-ON makes of a fader it puts into TOUCHED, and the notices it raises there, stand after the touch-on. -/
theorem State.touchBecomesOn_of_touched {v : State} (hv : (s.touchedOn f).touchOnRecord f = (v.evalLead f).grant)
    (ht : v.stateOf f = .touched) :
    (∃ x, (s.touchBecomesOn f).fader f = { v.fader f with touch := x }) ∧
      ∀ n ∈ v.notices, ∀ k, n.key = .fader f k → k ≠ .capture → n ∈ (s.touchBecomesOn f).notices := by
  have spared := s.touchBecomesOn_spares f
  rw [hv] at spared
  have led : Spares f v ((v.evalLead f).grant) :=
    .evalLead_grant f (.inr (by rw [ht]; nofun)) (by rw [ht]; rfl)
  refine ⟨⟨_, by rw [spared.fader, State.capture_fader, led.fader]⟩, fun n hn k hk hne => ?_⟩
  exact spared.notices n (State.mem_capture true (led.notices n hn k hk) fun e => hne (NoticeKey.fader.inj (hk ▸ e)).2) k hk

/-- A touch-on at a calibration (R23, R87). -/
theorem State.touchBecomesOn_calibrating {p : CalPhase} (h : s.stateOf f = .calibrating p) :
    let t := s.touchBecomesOn f
    t.stateOf f = .touched ∧ t.claimOf f = .none ∧ t.targetOf f = s.posOf f ∧ t.holdOf f = s.posOf f ∧
      (t.fader f).motion.drive = 0 ∧ (t.fader f).cal = none ∧ (t.fader f).record.pendingCal = none ∧
      ∀ c, (s.fader f).cal = some c → Notice.cal f .touched p c.low c.high none ∈ t.notices := by
  intro t
  have before : (s.touchedOn f).stateOf f = .calibrating p := by rw [State.stateOf, s.touchedOn_fader]; exact h
  have taken := State.touchCalibrated_fader before
  obtain ⟨⟨x, fader⟩, notices⟩ := State.touchBecomesOn_of_touched (State.touchOnRecord_calibrating before)
    (by rw [State.stateOf, taken])
  have pos : (s.touchedOn f).posOf f = s.posOf f := by rw [State.posOf, s.touchedOn_fader]; rfl
  rw [taken, pos] at fader
  simp only [State.stateOf, State.claimOf, State.targetOf, State.holdOf, t, fader, true_and]
  refine ⟨rfl, fun c hc => notices _ (State.touchCalibrated_cal before ?_) .cal rfl nofun⟩
  rw [s.touchedOn_fader]
  exact hc

/-- A touch-on at a fader that takes claims (R22). -/
theorem State.touchBecomesOn_takes (h : (s.stateOf f).takesClaims = true) :
    let t := s.touchBecomesOn f
    t.stateOf f = .touched ∧ t.targetOf f = s.posOf f ∧ t.holdOf f = s.posOf f ∧
      (t.fader f).motion.ramp = .none ∧ (t.fader f).motion.drive = 0 ∧
      ((s.claimOf f).isLane = true → t.claimOf f = .lane true) ∧ ((s.claimOf f).isLane = false → t.claimOf f = .none) ∧
      (s.claimOf f = .direct → Notice.motion f .direct .overridden (s.posOf f) false ∈ t.notices) := by
  intro t
  have before : ((s.touchedOn f).stateOf f).takesClaims = true := by rw [State.stateOf, s.touchedOn_fader]; exact h
  have taken := (s.touchedOn f).touchTaken_fader f
  obtain ⟨⟨x, fader⟩, notices⟩ := State.touchBecomesOn_of_touched (State.touchOnRecord_takes before)
    (by rw [State.stateOf, taken])
  have pos : (s.touchedOn f).posOf f = s.posOf f := by rw [State.posOf, s.touchedOn_fader]; rfl
  have claim : (s.touchedOn f).claimOf f = s.claimOf f := by rw [State.claimOf, s.touchedOn_fader]; rfl
  rw [taken, pos, claim] at fader
  have claimed : t.claimOf f = if (s.claimOf f).isLane then .lane true else .none := by rw [State.claimOf, fader]
  refine ⟨by rw [State.stateOf, fader], by rw [State.targetOf, fader], by rw [State.holdOf, fader], by rw [fader]; rfl,
    by rw [fader]; rfl, fun hl => by rw [claimed, if_pos hl], fun hl => by rw [claimed, hl]; rfl, fun hd => ?_⟩
  rw [← pos]
  exact notices _ (State.touchTaken_direct (claim.trans hd)) .motion rfl nofun

/-- A touch-on at the open entry of the only recall resolves it OVERRIDDEN, and the recall runs on or completes (R109,
R112). -/
theorem State.touchBecomesOn_recall {r : Recall} {run : RecallRun} {i : Nat} (h : (s.stateOf f).takesClaims = true)
    (hr : s.recalls = [r]) (hrun : r.run = some run) (hc : s.claimOf f = .recall r.tag i)
    (hi : run.outcomes[i]? = some none) :
    let t := s.touchBecomesOn f
    let left := run.outcomes.set i (some .overridden)
    (none ∈ left → t.recalls = [{ r with run := some { run with outcomes := left } }]) ∧
      (none ∉ left → t.recalls = [] ∧ Notice.recallEnd r.tag r.page false
        (((s.page r.page).entries.zip left).map fun (e, o) => (e.fader, o.getD .overridden)) ∈ t.notices) := by
  intro t left
  have before : ((s.touchedOn f).stateOf f).takesClaims = true := by rw [State.stateOf, s.touchedOn_fader]; exact h
  have claim : (s.touchedOn f).claimOf f = .recall r.tag i := by rw [State.claimOf, s.touchedOn_fader]; exact hc
  have written : (((s.touchedOn f).touchOnRecord f).capture f true).recalls =
      [{ r with run := some { run with outcomes := left } }] := by
    rw [State.capture_recalls, State.touchOnRecord_takes before, State.grant_recalls, State.evalLead_recalls,
      State.touchTaken_recalls (by rw [claim]; rfl)]
    simp only [State.reportEnd, claim]
    exact State.writeOutcome_open .overridden hr hrun hi
  have ends : t = (((s.touchedOn f).touchOnRecord f).capture f true).settleRecalls := rfl
  refine ⟨fun hn => ?_, fun hn => ?_⟩
  · rw [ends, State.settleRecalls_open, written]
    intro r' hr' run' hrun'
    rw [written, List.mem_singleton] at hr'
    subst hr'
    exact Option.some.inj hrun' ▸ hn
  · have page : (((s.touchedOn f).touchOnRecord f).capture f true).page r.page = s.page r.page :=
      congrArg (fun v : Vector Page 4 => v[r.page.val]) 
        (State.pages_of_base (State.base_touchOnRecord (s.touchedOn f) f) :)
    rw [ends, State.settleRecalls_last written rfl hn, outcomeItems_done _ _ .overridden hn, page]
    exact ⟨rfl, mem_raiseInto _ _ nofun⟩

end touchOn

/-! ## TOUCH-OFF at the record (R24) -/

section touchOff
variable {s : State} {f : FaderIx}

/-- R24, last part: the fader leaves TOUCHED, as far as the lead of its group. -/
def State.leaveTouched (s : State) (f : FaderIx) : State :=
  if s.settings.heatResume ≤ s.heatOf f then ((s.goTo f .rest).moveTest f).raise (.rest f true .release)
  else if s.needsDrive f then s.enterWaiting f false
  else (s.goTo f .parked).moveTest f

theorem State.touchOffRecord_touched (h : s.stateOf f = .touched) :
    s.touchOffRecord f = ((((s.settleTouch f).callRetrim f).leaveTouched f).evalLead f).grant := by
  rw [State.touchOffRecord, if_pos h]
  rfl

/-- From `s` to `t` fader `f` has changed in its state and its motion at most, and is not in CAL-WAIT. -/
def State.Shifts (f : FaderIx) (s t : State) : Prop :=
  (∃ (st : FaderState) (m : Motion), t.fader f =
    { s.fader f with record := { (s.fader f).record with state := st }, motion := m }) ∧
  t.stateOf f ≠ .calibrating .calWait

namespace State.Shifts
variable {t u : State}

theorem of_eq (h : t.fader f = s.fader f) (hs : s.stateOf f ≠ .calibrating .calWait) : Shifts f s t :=
  ⟨⟨_, _, h⟩, by rwa [State.stateOf, h]⟩

theorem trans (h : Shifts f s t) (k : Shifts f t u) : Shifts f s u := by
  obtain ⟨⟨st, m, e⟩, -⟩ := h
  obtain ⟨⟨st', m', e'⟩, hk⟩ := k
  exact ⟨⟨st', m', by rw [e', e]⟩, hk⟩

theorem goTo (s : State) {st : FaderState} (h : st ≠ .calibrating .calWait) : Shifts f s (s.goTo f st) :=
  ⟨⟨st, _, s.goTo_fader f st⟩, by rwa [State.stateOf, s.goTo_fader]⟩

/-- Nothing but the fader's notices follows. -/
theorem and_same (h : Shifts f s t) (e : u.fader f = t.fader f) : Shifts f s u := h.trans (of_eq e h.2)

theorem grantTo (x : FaderIx) (h : s.stateOf f ≠ .calibrating .calWait) : Shifts f s (s.grantTo x) := by
  by_cases hx : f = x
  · subst hx
    by_cases hw : s.stateOf f = .waiting
    · obtain ⟨m, -, e⟩ := s.grantTo_waiting hw
      exact ⟨⟨_, m, e⟩, by rw [State.stateOf, e]; nofun⟩
    · refine of_eq (Spares.grantTo s f ?_).fader h
      cases hs : s.stateOf f with
      | waiting => exact absurd hs hw
      | calibrating p =>
        cases p with
        | calWait => exact absurd hs h
        | _ => rfl
      | _ => rfl
  · exact of_eq (s.grantTo_fader_ne hx) h

/-- Slots granted: a fader outside CAL-WAIT may go from WAITING to TRAVEL. -/
theorem grantAlong (l : List FaderIx) (s : State) (h : s.stateOf f ≠ .calibrating .calWait) :
    Shifts f s (Machine.grantAlong l s) := by
  induction l generalizing s with
  | nil => exact of_eq rfl h
  | cons x l ih =>
    unfold Machine.grantAlong
    split
    · have granted := grantTo x h
      exact granted.trans (ih _ granted.2)
    · exact of_eq rfl h

theorem grant (h : Shifts f s t) : Shifts f s t.grant := h.trans (grantAlong _ t h.2)

theorem tripTest (s : State) (q : Bool) (hm : (s.stateOf f).moving = true) : Shifts f s (s.tripTest f q) := by
  have same : Shifts f s s := of_eq rfl (by intro e; rw [e] at hm; cases hm)
  unfold State.tripTest State.trip
  split
  · split
    · exact (goTo s (st := .rest) nofun).and_same (by simp)
    · exact same
  · exact same

theorem enterWaiting (s : State) (q : Bool) : Shifts f s (s.enterWaiting f q) := by
  have waits : Shifts f s ((s.goTo f .waiting).entryTest f q) := (goTo s (st := .waiting) nofun).and_same (by simp)
  exact (waits.trans (tripTest _ q (by rw [State.stateOf, State.entryTest_fader, State.goTo_fader]; rfl))).grant

theorem leaveTouched (s : State) (f : FaderIx) : Shifts f s (s.leaveTouched f) := by
  unfold State.leaveTouched
  split
  · exact (goTo s (st := .rest) nofun).and_same (by simp)
  · split
    · exact enterWaiting s false
    · exact (goTo s (st := .parked) nofun).and_same (by simp)

/-- The lead evaluated, of a group whose members hold FOLLOW. -/
theorem evalLead (h : Shifts f s t) (x : FaderIx) (hc : (s.claimOf f).isFollow = false) : Shifts f s (t.evalLead x) := by
  refine h.and_same (Spares.evalLead t x (.inl ?_)).fader
  obtain ⟨⟨st, m, e⟩, -⟩ := h
  rwa [State.claimOf, e]

end State.Shifts

/-- The fader waits for a slot in the queue, or has left the queue for TRAVEL. -/
def State.Queues (f : FaderIx) (s : State) : Prop :=
  (f ∈ s.queue ∧ s.stateOf f = .waiting) ∨ (f ∉ s.queue ∧ s.stateOf f = .travel)

theorem State.Queues.stateOf_eq (h : Queues f s) : s.stateOf f = if f ∈ s.queue then .waiting else .travel := by
  rcases h with ⟨hq, hs⟩ | ⟨hq, hs⟩ <;> simp [hq, hs]

theorem State.Queues.of_eq {t : State} (h : Queues f s) (hf : t.fader f = s.fader f) (hq : t.queue = s.queue) :
    Queues f t := by
  rwa [Queues, State.stateOf, hf, hq]

theorem State.grantTo_queue (s : State) (x : FaderIx) : (s.grantTo x).queue = s.queue.filter (· ≠ x) := by
  have taken (st : FaderState) (hq : st.queued = false) :
      ((s.leaveQueue x).goTo x st).queue = s.queue.filter (· ≠ x) := by
    rw [State.goTo_queue]
    split <;> simp [hq]
  simp only [State.grantTo]
  split
  · rw [State.modMotion_queue, State.layRamp_queue]
    exact taken .travel rfl
  · rw [State.setCal_queue, State.modFault_queue, State.enterCalPhase, State.modMotion_queue]
    exact taken (.calibrating .calDown) rfl
  · rfl

theorem State.Queues.grantAlong (l : List FaderIx) (s : State) (h : Queues f s) : Queues f (Machine.grantAlong l s) := by
  induction l generalizing s with
  | nil => exact h
  | cons x l ih =>
    unfold Machine.grantAlong
    split
    · refine ih _ ?_
      by_cases hx : f = x
      · subst hx
        refine .inr ⟨by simp [State.grantTo_queue], ?_⟩
        rcases h with ⟨-, hs⟩ | ⟨-, hs⟩
        · obtain ⟨m, -, e⟩ := s.grantTo_waiting hs
          rw [State.stateOf, e]
        · rw [State.stateOf, (Spares.grantTo s f (by rw [hs]; rfl)).fader]
          exact hs
      · have queue : f ∈ (s.grantTo x).queue ↔ f ∈ s.queue := by simp [State.grantTo_queue, hx]
        rwa [Queues, queue, State.stateOf, s.grantTo_fader_ne hx]
    · exact h

theorem State.Queues.grant (h : Queues f s) : Queues f s.grant := grantAlong _ s h

/-- A cool fader that leaves TOUCHED to drive stands in the queue, or has its slot (R24, R59, R60). -/
theorem State.Queues.enterWaiting (s : State) (q : Bool) (h : s.heatOf f < s.settings.heatTrip) :
    Queues f (s.enterWaiting f q) := by
  have waits : Queues f ((s.goTo f .waiting).entryTest f q) :=
    .inl ⟨by rw [State.entryTest_queue, State.goTo_queue]; simp [FaderState.queued],
      by rw [State.stateOf, State.entryTest_fader, State.goTo_fader]⟩
  have base : ((s.goTo f .waiting).entryTest f q).base = s.base := by simp
  have cool : ((s.goTo f .waiting).entryTest f q).tripTest f q = (s.goTo f .waiting).entryTest f q := by
    rw [State.tripTest, if_neg]
    rw [State.settings_of_base base, State.heatOf, State.heat_of_base base]
    exact Nat.not_le.2 h
  rw [State.enterWaiting, cool]
  exact waits.grant

/-- Where the fader goes from TOUCHED: to REST at or above the resume value; to PARKED without need of drive; and else to a
slot or the queue (R24). -/
theorem State.leaveTouched_stateOf (hc : (s.claimOf f).isFollow = false) :
    let t := ((s.leaveTouched f).evalLead f).grant
    (s.settings.heatResume ≤ s.heatOf f → t.stateOf f = .rest) ∧
      (s.heatOf f < s.settings.heatResume → s.needsDrive f = false → t.stateOf f = .parked) ∧
      (s.heatOf f < s.settings.heatResume → s.needsDrive f = true → s.heatOf f < s.settings.heatTrip → Queues f t) := by
  intro t
  have claim : ((s.leaveTouched f).claimOf f).isFollow = false := by
    obtain ⟨⟨st, m, e⟩, -⟩ := Shifts.leaveTouched s f
    rwa [State.claimOf, e]
  have settled {st : FaderState} (hs : (s.leaveTouched f).stateOf f = st) (hq : st.queued = false) : t.stateOf f = st := by
    rw [State.stateOf_evalLead_grant _ (by rwa [hs]), hs]
  refine ⟨fun hh => settled ?_ rfl, fun hh hn => settled ?_ rfl, fun hh hn ht => ?_⟩
  · simp [State.leaveTouched, hh, State.stateOf, State.goTo_fader]
  · simp [State.leaveTouched, Nat.not_le.2 hh, hn, State.stateOf, State.goTo_fader]
  · have queues : Queues f (s.leaveTouched f) := by
      rw [State.leaveTouched, if_neg (Nat.not_le.2 hh), if_pos hn]
      exact .enterWaiting s false ht
    exact (queues.of_eq (Spares.evalLead _ f (.inl claim)).fader (by simp)).grant

end touchOff

end Sys2Proof.Machine
end

section
namespace Sys2Proof.Machine

/-! ## Group roles through a retrim (R90, R98) -/

/-- Roles are read off the groups. -/
theorem State.masterOf_of_groups {s t : State} (h : t.groups = s.groups) (f : FaderIx) : t.masterOf f = s.masterOf f := by
  simp only [State.masterOf, State.group, h]
theorem State.roleOf_of_groups {s t : State} (h : t.groups = s.groups) (f : FaderIx) : t.roleOf f = s.roleOf f := by
  simp only [State.roleOf, State.masterOf, State.memberOf, State.group, h]
theorem State.memberOf_of_groups {s t : State} (h : t.groups = s.groups) (f : FaderIx) : t.memberOf f = s.memberOf f := by
  simp only [State.memberOf, State.group, h]

/-- A change of a member's items changes no master. -/
theorem State.masterOf_modMember (s : State) (f : FaderIx) (h : Member → Member) (f' : FaderIx) :
    (s.modMember f h).masterOf f' = s.masterOf f' := by
  unfold State.masterOf
  congr 1
  funext g
  rw [State.group_modMember]
  cases s.group g <;> rfl

theorem Group.member_modMember (r : Group) (f : FaderIx) {h : Member → Member} (hf : ∀ m, (h m).fader = m.fader) :
    (r.modMember f h).member f = (r.member f).map h := by
  have same : (fun m : Member => decide (m.fader = f)) ∘ (fun m => if m.fader = f then h m else m) =
      fun m => decide (m.fader = f) := by
    funext m
    by_cases hm : m.fader = f <;> simp [hm, hf]
  simp only [Group.member, Group.modMember, List.find?_map, same]
  cases e : r.members.find? fun m => decide (m.fader = f) with
  | none => rfl
  | some m => simp [show m.fader = f by simpa using List.find?_some e]

theorem State.memberOf_modMember (s : State) (f : FaderIx) {h : Member → Member} (hf : ∀ m, (h m).fader = m.fader) :
    (s.modMember f h).memberOf f = (s.memberOf f).map fun x => (x.1, x.2.1.modMember f h, h x.2.2) := by
  unfold State.memberOf
  rw [List.map_findSome?]
  congr 1
  funext g
  rw [Function.comp_apply, State.group_modMember]
  cases s.group g with
  | none => rfl
  | some r =>
    simp only [Option.map_some, Group.member_modMember r f hf, Option.map_map]
    rfl

/-- The fader is a member of group `g` under the master `M`, and no master. -/
def State.Follows (s : State) (f : FaderIx) (g : GroupIx) (M : FaderIx) : Prop :=
  s.masterOf f = none ∧ ∃ r y, s.memberOf f = some (g, r, y) ∧ r.master = M

theorem State.Follows.of_groups {s t : State} {f : FaderIx} {g : GroupIx} {M : FaderIx} (h : s.Follows f g M)
    (e : t.groups = s.groups) : t.Follows f g M := by
  rwa [State.Follows, State.masterOf_of_groups e, State.memberOf_of_groups e]

/-- A retrim sets the member's offset to its position minus its master's (R98). -/
theorem State.Follows.retrim {s : State} {f : FaderIx} {g : GroupIx} {M : FaderIx} (h : s.Follows f g M) :
    (s.retrim f).Follows f g M ∧ (s.retrim f).roleOf f = .member g ((s.posOf f : Int) - s.posOf M) := by
  obtain ⟨hm, r, y, hy, rfl⟩ := h
  have master : (s.retrim f).masterOf f = none := by
    simp only [State.retrim, hy, State.masterOf_modMember, hm]
  obtain ⟨r', hr, member⟩ : ∃ r', r'.master = r.master ∧ (s.retrim f).memberOf f =
      some (g, r', { y with offset := (s.posOf f : Int) - s.posOf r.master, deferred := false }) := by
    simp only [State.retrim, hy]
    rw [State.memberOf_modMember _ f (by intro _; rfl), hy]
    refine ⟨_, ?_, rfl⟩
    rfl
  exact ⟨⟨master, r', _, member, hr⟩, by simp only [State.roleOf, master, member]⟩

/-- A member that holds no FOLLOW claim is retrimmed at once (R98). -/
theorem State.callRetrim_eq {s : State} {f : FaderIx} (h : (s.claimOf f).isFollow = false) : s.callRetrim f = s.retrim f := by
  simp [State.callRetrim, h]

@[simp] theorem State.trip_groups (s : State) (f : FaderIx) (q : Bool) : (s.trip f q).groups = s.groups := by
  have ended (o : CalOutcome) (n : Option Int) : (s.endCalibration f o n).groups = s.groups := by
    unfold State.endCalibration; split <;> rfl
  have reset (t : State) : ((t.clearClaim f).holdHere f).groups = t.groups := rfl
  unfold State.trip
  split
  · split
    · simp
    · simp [reset, ended]
  · rfl
@[simp] theorem State.leaveTouched_groups (s : State) (f : FaderIx) : (s.leaveTouched f).groups = s.groups := by
  have tripped (t : State) (q : Bool) : (t.tripTest f q).groups = t.groups := by
    unfold State.tripTest; split <;> simp
  unfold State.leaveTouched
  split
  · simp
  · split <;> simp [State.enterWaiting, tripped]
@[simp] theorem State.disableLane_groups (s : State) (f : FaderIx) (r : Option LaneReason) :
    (s.disableLane f r).groups = s.groups := by
  unfold State.disableLane; split <;> (try split) <;> rfl

/-- Without a group to lead there is no lead to evaluate (R94). -/
theorem State.evalLead_of_no_group {s : State} {f : FaderIx} (h : s.masterOf f = none) : s.evalLead f = s := by
  simp only [State.evalLead, h]

/-! ## The claim settled at TOUCH-OFF (R24) -/

section settle
variable {s : State} {f : FaderIx}

theorem State.settleTouch_other (h : (s.claimOf f).isLane = false) : s.settleTouch f = s.holdHere f := by
  unfold State.settleTouch
  split
  · rename_i e
    rw [e] at h
    cases h
  · rfl

theorem State.settleTouch_stay {m : Bool} (h : s.claimOf f = .lane m) (hr : (s.config f).release = .stay) :
    s.settleTouch f =
      (((s.disableLane f (some .release)).clearClaim f).holdHere f).claimEnded f (.lane m) := by
  simp only [State.settleTouch, h, hr]

theorem State.settleTouch_return_some {m : Bool} {v : Nat} (h : s.claimOf f = .lane m)
    (hr : (s.config f).release = .return) (hv : (s.fader f).lane.value = some v) :
    s.settleTouch f = (s.holdHere f).modRecord f fun r =>
      { r with claim := .lane false, target := v, planned := some (s.now + ms (s.fader f).lane.chase) } := by
  simp only [State.settleTouch, h, hr, hv]

theorem State.settleTouch_return_none {m : Bool} (h : s.claimOf f = .lane m)
    (hr : (s.config f).release = .return) (hv : (s.fader f).lane.value = none) :
    s.settleTouch f = (s.holdHere f).modRecord f fun r => { r with claim := .lane false } := by
  simp only [State.settleTouch, h, hr, hv]

/-- Settling leaves no FOLLOW claim where there was none. -/
theorem State.settleTouch_isFollow (h : (s.claimOf f).isFollow = false) : ((s.settleTouch f).claimOf f).isFollow = false := by
  cases hc : s.claimOf f with
  | lane m =>
    match hr : (s.config f).release with
    | .stay =>
      rw [State.settleTouch_stay hc hr, State.claimOf, State.claimEnded_fader, State.holdHere_fader, State.clearClaim_fader]
      rfl
    | .return =>
      cases hv : (s.fader f).lane.value with
      | some v => rw [State.settleTouch_return_some hc hr hv, State.claimOf, State.modRecord_fader]; rfl
      | none => rw [State.settleTouch_return_none hc hr hv, State.claimOf, State.modRecord_fader]; rfl
  | _ =>
    rw [State.settleTouch_other (by rw [hc]; rfl), State.claimOf, State.holdHere_fader]
    exact h

/-- Settling keeps a member's group and master. -/
theorem State.Follows.settleTouch {g : GroupIx} {M : FaderIx} (h : s.Follows f g M) : (s.settleTouch f).Follows f g M := by
  cases hc : s.claimOf f with
  | lane m =>
    match hr : (s.config f).release with
    | .stay =>
      rw [State.settleTouch_stay hc hr]
      have ended := h.of_groups (t := ((s.disableLane f (some .release)).clearClaim f).holdHere f) (s.disableLane_groups f _)
      generalize hw : ((s.disableLane f (some .release)).clearClaim f).holdHere f = w at ended ⊢
      have claim : (w.claimOf f).isFollow = false := by
        rw [← hw, State.claimOf, State.holdHere_fader, State.clearClaim_fader]; rfl
      have alone : w.followersOf f = [] := by simp only [State.followersOf, ended.1]
      simp only [State.claimEnded, State.callRetrim_eq claim, alone]
      exact ended.retrim.1
    | .return =>
      cases hv : (s.fader f).lane.value with
      | some v => rw [State.settleTouch_return_some hc hr hv]; exact h.of_groups rfl
      | none => rw [State.settleTouch_return_none hc hr hv]; exact h.of_groups rfl
  | _ => rw [State.settleTouch_other (by rw [hc]; rfl)]; exact h.of_groups rfl

end settle

/-! ## What a touch-off leaves -/

/-- The state in which TOUCH-OFF reaches Fader Control: the touch items set by R8. -/
def State.touchedOff (s : State) (f : FaderIx) : State :=
  s.modTouch f fun t => { t with on := false, present := 0, absent := 0 }

section touchOff
variable {s : State} {f : FaderIx}

theorem State.touchedOff_fader (s : State) (f : FaderIx) : (s.touchedOff f).fader f =
    { s.fader f with touch := { (s.fader f).touch with on := false, present := 0, absent := 0 } } :=
  State.modTouch_fader _ _ _

theorem State.touchBecomesOff_eq (s : State) (f : FaderIx) :
    s.touchBecomesOff f = ((s.touchedOff f).touchOffRecord f).capture f false := rfl

/-- The touch items after a touch-off: state OFF, counts 0, and a capture of the position and count in force (R8, R10, R11). -/
theorem State.touchBecomesOff_touch (s : State) (f : FaderIx) : ((s.touchBecomesOff f).fader f).touch =
    ⟨false, 0, 0,
      if (s.fader f).touch.captures.length < 2 then (s.fader f).touch.captures ++ [⟨false, s.posOf f, s.timeline.count⟩]
        else (s.fader f).touch.captures,
      (s.fader f).touch.lost || decide (2 ≤ (s.fader f).touch.captures.length), (s.fader f).touch.nextSample⟩ := by
  have base := State.base_touchOffRecord (s.touchedOff f) f
  have pos : ((s.touchedOff f).touchOffRecord f).posOf f = s.posOf f := by
    rw [State.posOf, State.track_of_base base, s.touchedOff_fader]; rfl
  have time : ((s.touchedOff f).touchOffRecord f).timeline = s.timeline := (State.timeline_of_base base :)
  rw [s.touchBecomesOff_eq, State.capture_fader, State.touch_of_base base, s.touchedOff_fader, pos, time,
    Touch.addCapture_eq]

theorem State.needsDrive_congr {s t : State} {f : FaderIx} (hf : t.fader f = s.fader f) (hs : t.settings = s.settings) :
    t.needsDrive f = s.needsDrive f := by
  unfold State.needsDrive State.within State.posOf State.targetOf State.config
  rw [hf, hs]

theorem State.Queues.capture (h : Queues f s) (on : Bool) : Queues f (s.capture f on) := by
  rwa [Queues, State.capture_stateOf]

/-- A touch-off in TOUCHED: the claim is settled, and what the fader has then it keeps, but for its state, its motion and its
captures; where it goes is told by what it has then (R24). -/
theorem State.touchBecomesOff_touched (h : s.stateOf f = .touched) (hc : (s.claimOf f).isFollow = false) :
    let t := s.touchBecomesOff f
    let z := (s.touchedOff f).settleTouch f
    (∃ st m x, t.fader f =
        { z.fader f with record := { (z.fader f).record with state := st }, motion := m, touch := x }) ∧
      (s.settings.heatResume ≤ s.heatOf f → t.stateOf f = .rest) ∧
      (s.heatOf f < s.settings.heatResume → z.needsDrive f = false → t.stateOf f = .parked) ∧
      (s.heatOf f < s.settings.heatResume → z.needsDrive f = true → s.heatOf f < s.settings.heatTrip → Queues f t) := by
  intro t z
  have before : (s.touchedOff f).stateOf f = .touched := by rw [State.stateOf, s.touchedOff_fader]; exact h
  have ends : t = ((((z.callRetrim f).leaveTouched f).evalLead f).grant).capture f false := by
    rw [← State.touchOffRecord_touched before]; exact s.touchBecomesOff_eq f
  have told : (z.callRetrim f).fader f = z.fader f := State.callRetrim_fader _ f f
  have base : (z.callRetrim f).base = (s.touchedOff f).base := by simp [z]
  have heat : (z.callRetrim f).heatOf f = s.heatOf f := by
    rw [State.heatOf, State.heat_of_base base, s.touchedOff_fader]; rfl
  have settings : (z.callRetrim f).settings = s.settings := (State.settings_of_base base :)
  have drive : (z.callRetrim f).needsDrive f = z.needsDrive f := by
    have same : (z.callRetrim f).settings = z.settings := State.settings_of_base (State.base_callRetrim z f)
    exact State.needsDrive_congr told same
  have claim : ((z.callRetrim f).claimOf f).isFollow = false := by
    rw [State.claimOf, told]
    refine State.settleTouch_isFollow ?_
    rw [State.claimOf, s.touchedOff_fader]
    exact hc
  obtain ⟨⟨st, m, e⟩, -⟩ := ((Shifts.leaveTouched (z.callRetrim f) f).evalLead f claim).grant
  obtain ⟨rest, parked, queues⟩ := State.leaveTouched_stateOf claim
  rw [heat, settings] at rest parked queues
  rw [drive] at parked queues
  have state : t.stateOf f = (((z.callRetrim f).leaveTouched f).evalLead f).grant.stateOf f := by
    rw [ends, State.capture_stateOf]
  refine ⟨⟨st, m, _, by rw [ends, State.capture_fader, e, told]⟩, ?_, ?_, fun h1 h2 h3 => ?_⟩
  · exact fun hh => state.trans (rest hh)
  · exact fun hh hn => state.trans (parked hh hn)
  · rw [ends]
    exact (queues h1 h2 h3).capture false

/-- Settled at its position a fader needs no drive. -/
theorem State.needsDrive_of_held (h : s.targetOf f = s.posOf f) : s.needsDrive f = false := by
  simp [State.needsDrive, State.within, h, dist]

/-- A touch-off that leaves the target at the position leads to REST or to PARKED (R24). -/
theorem State.touchBecomesOff_held (h : s.stateOf f = .touched) (hc : (s.claimOf f).isFollow = false)
    (held : ((s.touchedOff f).settleTouch f).targetOf f = s.posOf f) :
    (s.touchBecomesOff f).stateOf f = if s.settings.heatResume ≤ s.heatOf f then .rest else .parked := by
  have pos : ((s.touchedOff f).settleTouch f).posOf f = s.posOf f := by
    rw [State.posOf, State.track_of_base (State.base_settleTouch _ f), s.touchedOff_fader]; rfl
  obtain ⟨-, rest, parked, -⟩ := State.touchBecomesOff_touched h hc
  split
  · exact rest ‹_›
  · exact parked (Nat.not_le.1 ‹_›) (State.needsDrive_of_held (held.trans pos.symm))

theorem State.settleTouch_posOf (s : State) (f f' : FaderIx) :
    ((s.touchedOff f).settleTouch f).posOf f' = s.posOf f' := by
  rw [State.posOf, State.track_of_base (State.base_settleTouch _ f), State.touchedOff, State.modTouch,
    State.fader_modFader_ite]
  split
  · subst f'; rfl
  · rfl

/-- A fader that leaves TOUCHED without need of drive keeps a pending LANE notice. -/
theorem State.mem_leaveTouched {n : Notice} (hc : (s.claimOf f).isFollow = false) (hd : s.needsDrive f = false)
    (hn : n ∈ s.notices) (hk : n.key = .fader f .lane) : n ∈ (((s.leaveTouched f).evalLead f).grant).notices := by
  have other {k : FaderNotice} (hne : k ≠ .lane) : n.key ≠ .fader f k := by
    rw [hk]
    exact fun e => hne (NoticeKey.fader.inj e).2.symm
  have tested (st : FaderState) : n ∈ ((s.goTo f st).moveTest f).notices :=
    State.mem_moveTest (by rwa [State.goTo_notices]) (other nofun)
  have claim : ((s.leaveTouched f).claimOf f).isFollow = false := by
    obtain ⟨⟨st, m, e⟩, -⟩ := Shifts.leaveTouched s f
    rwa [State.claimOf, e]
  have kept (hq : ((s.leaveTouched f).stateOf f).queued = false) (hl : n ∈ (s.leaveTouched f).notices) :=
    (Spares.evalLead_grant f (.inl claim) hq).notices n hl .lane hk
  by_cases hh : s.settings.heatResume ≤ s.heatOf f
  · have rest : s.leaveTouched f = ((s.goTo f .rest).moveTest f).raise (.rest f true .release) := if_pos hh
    refine kept ?_ ?_
    · simp [rest, State.stateOf, State.goTo_fader, FaderState.queued]
    · rw [rest]
      exact mem_raiseInto_of_ne (tested .rest) (other nofun)
  · have parked : s.leaveTouched f = (s.goTo f .parked).moveTest f := by simp [State.leaveTouched, hh, hd]
    refine kept ?_ ?_
    · simp [parked, State.stateOf, State.goTo_fader, FaderState.queued]
    · rw [parked]
      exact tested .parked

/-- A LANE notice raised as the claim is settled at the position is pending after the touch-off. -/
theorem State.touchBecomesOff_keeps (h : s.stateOf f = .touched) (hc : (s.claimOf f).isFollow = false)
    (held : ((s.touchedOff f).settleTouch f).targetOf f = s.posOf f) {n : Notice}
    (hn : n ∈ ((s.touchedOff f).settleTouch f).notices) (hk : n.key = .fader f .lane) :
    n ∈ (s.touchBecomesOff f).notices := by
  have before : (s.touchedOff f).stateOf f = .touched := by rw [State.stateOf, s.touchedOff_fader]; exact h
  rw [s.touchBecomesOff_eq, State.touchOffRecord_touched before]
  refine State.mem_capture false (State.mem_leaveTouched ?_ ?_ (by rwa [State.callRetrim_notices]) hk) (by rw [hk]; nofun)
  · rw [State.claimOf, State.callRetrim_fader]
    refine State.settleTouch_isFollow ?_
    rw [State.claimOf, s.touchedOff_fader]
    exact hc
  · refine State.needsDrive_of_held ?_
    rw [State.targetOf, State.posOf, State.callRetrim_fader]
    exact held.trans (s.settleTouch_posOf f f).symm

/-- A touch-off without a claim (R24). -/
theorem State.touchBecomesOff_unclaimed (h : s.stateOf f = .touched) (hc : s.claimOf f = .none) :
    let t := s.touchBecomesOff f
    t.claimOf f = .none ∧ t.targetOf f = s.posOf f ∧ t.holdOf f = s.posOf f ∧
      t.stateOf f = if s.settings.heatResume ≤ s.heatOf f then .rest else .parked := by
  intro t
  have claim : (s.touchedOff f).claimOf f = .none := by rw [State.claimOf, s.touchedOff_fader]; exact hc
  have settled : ((s.touchedOff f).settleTouch f).fader f = { (s.touchedOff f).fader f with
      record := { (s.fader f).record with target := s.posOf f, hold := s.posOf f } } := by
    rw [State.settleTouch_other (by rw [claim]; rfl), State.holdHere_fader, State.posOf, s.touchedOff_fader]
    rfl
  have follow : (s.claimOf f).isFollow = false := by rw [hc]; rfl
  obtain ⟨⟨st, m, x, e⟩, -⟩ := State.touchBecomesOff_touched h follow
  rw [settled] at e
  refine ⟨?_, ?_, ?_, State.touchBecomesOff_held h follow (by rw [State.targetOf, settled])⟩
  · rw [State.claimOf, e]; exact hc
  · rw [State.targetOf, e]
  · rw [State.holdOf, e]

/-- A touch-off under STAY: the lane is disabled and emptied, and the claim ends (R24, R135). -/
theorem State.touchBecomesOff_stay (h : s.stateOf f = .touched) (hc : s.claimOf f = .lane true)
    (hl : (s.fader f).lane.enabled = true) (hr : (s.config f).release = .stay) :
    let t := s.touchBecomesOff f
    t.holdOf f = s.posOf f ∧ t.claimOf f = .none ∧ t.targetOf f = s.posOf f ∧
      (t.fader f).lane = { (s.fader f).lane with
        enabled := false, queue := [], current := none, value := none, segment := none, starved := false } ∧
      Notice.lane f .release s.timeline.count ∈ t.notices ∧
      t.stateOf f = if s.settings.heatResume ≤ s.heatOf f then .rest else .parked := by
  intro t
  have follow : (s.claimOf f).isFollow = false := by rw [hc]; rfl
  have claim : (s.touchedOff f).claimOf f = .lane true := by rw [State.claimOf, s.touchedOff_fader]; exact hc
  have enabled : ((s.touchedOff f).fader f).lane.enabled = true := by rw [s.touchedOff_fader]; exact hl
  have stay := State.settleTouch_stay claim hr
  have settled : ((s.touchedOff f).settleTouch f).fader f = { (s.touchedOff f).fader f with
      record := { (s.fader f).record with
        claim := .none, target := s.posOf f, hold := s.posOf f, planned := none, deadline := none, expiry := none }
      lane := { (s.fader f).lane with
        enabled := false, queue := [], current := none, value := none, segment := none, starved := false } } := by
    rw [stay, State.claimEnded_fader, State.holdHere_fader, State.posOf, State.clearClaim_fader,
      State.disableLane_fader, if_pos enabled, s.touchedOff_fader]
    rfl
  have held : ((s.touchedOff f).settleTouch f).targetOf f = s.posOf f := by rw [State.targetOf, settled]
  have raised : Notice.lane f .release s.timeline.count ∈ ((s.touchedOff f).settleTouch f).notices := by
    rw [stay, State.claimEnded_notices]
    change _ ∈ ((s.touchedOff f).disableLane f (some .release)).notices
    simp only [State.disableLane, enabled, if_true]
    exact mem_raiseInto _ _ nofun
  obtain ⟨⟨st, m, x, e⟩, -⟩ := State.touchBecomesOff_touched h follow
  rw [settled] at e
  refine ⟨?_, ?_, ?_, ?_, State.touchBecomesOff_keeps h follow held raised rfl, State.touchBecomesOff_held h follow held⟩
  · rw [State.holdOf, e]
  · rw [State.claimOf, e]
  · rw [State.targetOf, e]
  · rw [e]

/-- A touch-off under RETURN (R24): the claim is no longer suspended, and the target is the lane value where there is one. -/
theorem State.touchBecomesOff_return (h : s.stateOf f = .touched) (hc : s.claimOf f = .lane true)
    (hr : (s.config f).release = .return) :
    let t := s.touchBecomesOff f
    t.holdOf f = s.posOf f ∧ t.claimOf f = .lane false ∧ (t.fader f).lane = (s.fader f).lane ∧
      ((s.fader f).lane.value = none → t.targetOf f = s.posOf f ∧
        t.stateOf f = if s.settings.heatResume ≤ s.heatOf f then .rest else .parked) ∧
      ∀ v, (s.fader f).lane.value = some v → t.targetOf f = v ∧
        (t.fader f).record.planned = some (s.now + 6 * (s.fader f).lane.chase) ∧
        (s.settings.heatResume ≤ s.heatOf f → t.stateOf f = .rest) ∧
        (s.heatOf f < s.settings.heatResume → s.heatOf f < s.settings.heatTrip → t.stateOf f =
          if Sys2Proof.dist (s.posOf f) v ≤ (s.config f).arrivalWindow then .parked
          else if f ∈ t.queue then .waiting else .travel) := by
  intro t
  have follow : (s.claimOf f).isFollow = false := by rw [hc]; rfl
  have claim : (s.touchedOff f).claimOf f = .lane true := by rw [State.claimOf, s.touchedOff_fader]; exact hc
  have lane : ((s.touchedOff f).fader f).lane = (s.fader f).lane := by rw [s.touchedOff_fader]
  have pos : ((s.touchedOff f).settleTouch f).posOf f = s.posOf f := State.settleTouch_posOf s f f
  obtain ⟨⟨st, m, x, e⟩, rest, parked, queues⟩ := State.touchBecomesOff_touched h follow
  cases hv : (s.fader f).lane.value with
  | none =>
    have settled : ((s.touchedOff f).settleTouch f).fader f = { (s.touchedOff f).fader f with
        record := { (s.fader f).record with claim := .lane false, target := s.posOf f, hold := s.posOf f } } := by
      rw [State.settleTouch_return_none claim hr (by rw [lane]; exact hv), State.modRecord_fader, State.holdHere_fader,
        State.posOf, s.touchedOff_fader]
      rfl
    rw [settled] at e
    refine ⟨by rw [State.holdOf, e], by rw [State.claimOf, e], by rw [e]; exact lane, fun _ => ⟨by rw [State.targetOf, e], ?_⟩,
      nofun⟩
    exact State.touchBecomesOff_held h follow (by rw [State.targetOf, settled])
  | some v =>
    have settled : ((s.touchedOff f).settleTouch f).fader f = { (s.touchedOff f).fader f with
        record := { (s.fader f).record with
          claim := .lane false, target := v, hold := s.posOf f, planned := some (s.now + 6 * (s.fader f).lane.chase) } } := by
      rw [State.settleTouch_return_some claim hr (by rw [lane]; exact hv), State.modRecord_fader, State.holdHere_fader,
        State.posOf, s.touchedOff_fader]
      rfl
    have drive : ((s.touchedOff f).settleTouch f).needsDrive f =
        !decide (Sys2Proof.dist (s.posOf f) v ≤ (s.config f).arrivalWindow) := by
      have config : ((s.touchedOff f).settleTouch f).config f = s.config f :=
        congrArg (fun c : Settings => c.faders[f.val]) (State.settings_of_base (State.base_settleTouch (s.touchedOff f) f) :)
      rw [State.needsDrive, State.within, pos, config, State.targetOf, settled]
    rw [settled] at e
    refine ⟨by rw [State.holdOf, e], by rw [State.claimOf, e], by rw [e]; exact lane, nofun, fun w hw => ?_⟩
    obtain rfl : v = w := Option.some.inj hw
    refine ⟨by rw [State.targetOf, e], by rw [e], rest, fun h1 h2 => ?_⟩
    split
    · rename_i near
      exact parked h1 (by simp [drive, near])
    · rename_i far
      exact (queues h1 (by simpa [drive] using Nat.not_le.1 far) h2).stateOf_eq

/-- A touch-off retrims a group member without a FOLLOW claim (R24, R98). -/
theorem State.touchBecomesOff_role {g : GroupIx} {r : Group} {y : Member} (h : s.stateOf f = .touched)
    (hc : (s.claimOf f).isFollow = false) (hm : s.masterOf f = none) (hy : s.memberOf f = some (g, r, y)) :
    (s.touchBecomesOff f).roleOf f = .member g ((s.posOf f : Int) - s.posOf r.master) := by
  have before : (s.touchedOff f).stateOf f = .touched := by rw [State.stateOf, s.touchedOff_fader]; exact h
  have claim : (((s.touchedOff f).settleTouch f).claimOf f).isFollow = false := by
    refine State.settleTouch_isFollow ?_
    rw [State.claimOf, s.touchedOff_fader]
    exact hc
  have follows : (s.touchedOff f).Follows f g r.master := ⟨hm, r, y, hy, rfl⟩
  obtain ⟨⟨alone, -⟩, role⟩ := follows.settleTouch.retrim
  rw [← State.callRetrim_eq claim] at alone role
  have left : ((((s.touchedOff f).settleTouch f).callRetrim f).leaveTouched f).masterOf f = none :=
    (State.masterOf_of_groups (State.leaveTouched_groups _ f) f).trans alone
  have groups : (s.touchBecomesOff f).groups = (((s.touchedOff f).settleTouch f).callRetrim f).groups := by
    rw [s.touchBecomesOff_eq, State.capture_groups, State.touchOffRecord_touched before, State.grant_groups,
      State.evalLead_of_no_group left, State.leaveTouched_groups]
  rw [State.roleOf_of_groups groups, role, State.settleTouch_posOf, State.settleTouch_posOf]

end touchOff

/-! ## Touch samples as commands -/

theorem State.touchTime_posOf (s : State) (f f' : FaderIx) : (s.touchTime f).posOf f' = s.posOf f' := by
  rw [State.posOf, State.touchTime, State.modTouch, State.fader_modFader_ite]
  split
  · subst f'; rfl
  · rfl

/-- A touch sample of a READY part (R7, R9). -/
theorem exec_touchSample {s : State} (ready : s.part = .ready) (f : FaderIx) (b : Bool) :
    exec (.touchSample f b) s = .next (if (s.config f).touchEnable then (s.touchTime f).debounce f b else s.touchTime f) := by
  change Host.Outcome.next (if s.part = .ready then s.touchSampleAt f b else s) = _
  rw [if_pos ready]
  rfl

/-- TOUCH_ON and TOUCH_OFF are the samples that complete the change (log entry 12). -/
theorem exec_touchOn {s : State} {f : FaderIx} (ready : s.part = .ready) (he : (s.config f).touchEnable = true)
    (ho : (s.fader f).touch.on = false) (hn : 6 ≤ (s.fader f).touch.present) :
    exec (.touchOn f) s = exec (.touchSample f true) s := by
  change Host.Outcome.next (if _ then s.touchSampleAt f true else s) =
    Host.Outcome.next (if s.part = .ready then s.touchSampleAt f true else s)
  rw [if_pos ⟨ready, he, ho, hn⟩, if_pos ready]
theorem exec_touchOff {s : State} {f : FaderIx} (ready : s.part = .ready) (he : (s.config f).touchEnable = true)
    (ho : (s.fader f).touch.on = true) (hn : 50 ≤ (s.fader f).touch.absent) :
    exec (.touchOff f) s = exec (.touchSample f false) s := by
  change Host.Outcome.next (if _ then s.touchSampleAt f false else s) =
    Host.Outcome.next (if s.part = .ready then s.touchSampleAt f false else s)
  rw [if_pos ⟨ready, he, ho, hn⟩, if_pos ready]

/-- Settles O43: a sample counts or completes a change, and the change is followed through the record, the capture and the
recalls. -/
theorem touchesAreDebouncedAndTaken : Obligations.TouchesAreDebouncedAndTaken := by
  intro f s ready x now timed
  have fader : timed.fader f = { s.fader f with touch := { x with nextSample := now + 3 } } := s.touchTime_fader f
  have touch : (timed.fader f).touch = { x with nextSample := now + 3 } := by rw [fader]
  have on : (timed.fader f).touch.on = x.on := by rw [touch]
  have present : (timed.fader f).touch.present = x.present := by rw [touch]
  have absent : (timed.fader f).touch.absent = x.absent := by rw [touch]
  have state : timed.stateOf f = s.stateOf f := by rw [State.stateOf, fader]; rfl
  have claim : timed.claimOf f = s.claimOf f := by rw [State.claimOf, fader]; rfl
  have pos : timed.posOf f = s.posOf f := by rw [State.posOf, fader]; rfl
  have heat : timed.heatOf f = s.heatOf f := by rw [State.heatOf, fader]; rfl
  have lane : (timed.fader f).lane = (s.fader f).lane := by rw [fader]
  refine ⟨fun he b => ?_, fun he => ⟨fun ho => ?_, fun ho hn => ?_, fun ho => ?_, fun ho hn => ?_, fun ho hn => ?_,
    fun ho hn => ?_⟩⟩
  case refine_1 => rw [exec_touchSample ready, he]; rfl
  case refine_2 =>
    rw [exec_touchSample ready, if_pos he]
    exact congrArg _ (State.debounce_off_absent (on.trans ho))
  case refine_3 =>
    rw [exec_touchSample ready, if_pos he]
    rw [← present]
    exact congrArg _ (State.debounce_off_counts (on.trans ho) (present.trans_lt hn))
  case refine_4 =>
    rw [exec_touchSample ready, if_pos he]
    exact congrArg _ (State.debounce_on_present (on.trans ho))
  case refine_5 =>
    rw [exec_touchSample ready, if_pos he]
    rw [← absent]
    exact congrArg _ (State.debounce_on_counts (on.trans ho) (absent.trans_lt hn))
  case refine_6 =>
    have sample : exec (.touchSample f true) s = .next (timed.touchBecomesOn f) := by
      rw [exec_touchSample ready, if_pos he]
      exact congrArg _ (State.debounce_off_completes (on.trans ho) (hn.trans_eq present.symm))
    refine ⟨timed.touchBecomesOn f, (exec_touchOn ready he ho hn).trans sample, sample, ?_,
      timed.touchBecomesOn_captures f, fun hs => ?_, fun p hs => ?_, fun hs => ?_⟩
    · rw [timed.touchBecomesOn_touch, touch, pos]
      rfl
    · rw [timed.touchBecomesOn_stateOf, state, if_pos hs]
    · have taken := State.touchBecomesOn_calibrating (state.trans hs)
      rw [pos, fader] at taken
      exact taken
    · have takes : (timed.stateOf f).takesClaims = true := by rw [state]; exact hs
      have taken := State.touchBecomesOn_takes takes
      rw [pos, claim] at taken
      obtain ⟨h1, h2, h3, h4, h5, h6, h7, h8⟩ := taken
      exact ⟨h1, h2, h3, h4, h5, h6, h7, h8, fun r run i hr hrun hc hi =>
        State.touchBecomesOn_recall takes hr hrun (claim.trans hc) hi⟩
  case refine_7 =>
    have sample : exec (.touchSample f false) s = .next (timed.touchBecomesOff f) := by
      rw [exec_touchSample ready, if_pos he]
      exact congrArg _ (State.debounce_on_completes (on.trans ho) (hn.trans_eq absent.symm))
    refine ⟨timed.touchBecomesOff f, (exec_touchOff ready he ho hn).trans sample, sample, ?_,
      State.capture_raises _ f false, fun hs hc => ?_, fun g r y hs hc hm hy => ?_, fun hs hc hl => ?_⟩
    · rw [timed.touchBecomesOff_touch, touch, pos]
      rfl
    · have left := State.touchBecomesOff_unclaimed (state.trans hs) (claim.trans hc)
      rw [pos, heat] at left
      exact left
    · have others : timed.posOf r.master = s.posOf r.master := s.touchTime_posOf f r.master
      have role := State.touchBecomesOff_role (s := timed) (state.trans hs) (by rw [claim]; exact hc) hm hy
      rw [pos, others] at role
      exact role
    · have enabled : (timed.fader f).lane.enabled = true := by rw [lane]; exact hl
      match hr : (s.config f).release with
      | .stay =>
        have left := State.touchBecomesOff_stay (state.trans hs) (claim.trans hc) enabled hr
        rw [pos, heat, lane] at left
        exact ⟨left.1, fun _ => left.2, nofun⟩
      | .return =>
        have left := State.touchBecomesOff_return (state.trans hs) (claim.trans hc) hr
        rw [pos, heat, lane] at left
        exact ⟨left.1, nofun, fun _ => left.2⟩

end Sys2Proof.Machine
end

section
namespace Sys2Proof.Machine

/-! # Motion, arrival and hold: a sample of a fader under way

The setpoint along a ramp, and an ordinary servo sample of a fader in TRAVEL or SETTLE as far as the test of the arrival
window (R43, R44, R49, R50). -/

/-! ## The setpoint along a ramp (R44) -/

/-- A quotient rounded to the nearest whole, halves up. -/
theorem roundedDiv_bounds (n : Nat) {d : Nat} (h : 0 < d) :
    2 * (((2 * n + d) / (2 * d)) * d) ≤ 2 * n + d ∧ 2 * n < 2 * (((2 * n + d) / (2 * d)) * d) + d := by
  have below : (2 * n + d) / (2 * d) * (2 * d) ≤ 2 * n + d := Nat.div_mul_le_self _ _
  have above : 2 * n + d < ((2 * n + d) / (2 * d) + 1) * (2 * d) := Nat.lt_mul_of_div_lt (Nat.lt_succ_self _) (by omega)
  constructor <;> nlinarith

/-- The setpoint of R44: the distance moved is rounded to the nearest step, halves toward the ramp end, and never leads
past it. -/
theorem RampItems.setpointAt_eq (r : RampItems) {e : Nat} (hd : 0 < r.duration) (he : e ≤ 3 * r.duration) :
    ∃ moved : Nat, moved ≤ dist r.start r.stop ∧
      2 * (moved * (3 * r.duration)) ≤ 2 * (dist r.start r.stop * e) + 3 * r.duration ∧
      2 * (dist r.start r.stop * e) < 2 * (moved * (3 * r.duration)) + 3 * r.duration ∧
      r.setpointAt e = if r.start ≤ r.stop then r.start + moved else r.start - moved := by
  have pos : 0 < 3 * r.duration := by omega
  obtain ⟨below, above⟩ := roundedDiv_bounds (dist r.start r.stop * e) pos
  refine ⟨(2 * (dist r.start r.stop * e) + 3 * r.duration) / (2 * (3 * r.duration)), ?_, below, above, ?_⟩
  · have run : dist r.start r.stop * e ≤ dist r.start r.stop * (3 * r.duration) := Nat.mul_le_mul_left _ he
    refine Nat.lt_succ_iff.1 (Nat.div_lt_of_lt_mul ?_)
    rw [Nat.mul_succ]
    nlinarith
  · simp only [RampItems.setpointAt, halfMs, Nat.mul_assoc]

/-- R44: the setpoint is the step nearest to the straight line, halves toward the ramp end. -/
theorem RampItems.setpointAt_nearest (r : RampItems) (e : Nat) (hd : 0 < r.duration) (he : e ≤ 3 * r.duration) :
    let d : Int := 3 * r.duration
    let line : Int := (r.start : Int) * d + ((r.stop : Int) - r.start) * e
    let v : Int := r.setpointAt e
    (r.start ≤ r.stop → 2 * line - d < 2 * (v * d) ∧ 2 * (v * d) ≤ 2 * line + d) ∧
      (r.stop ≤ r.start → 2 * line - d ≤ 2 * (v * d) ∧ 2 * (v * d) < 2 * line + d) := by
  intro d line v
  obtain ⟨moved, within, below, above, value⟩ := r.setpointAt_eq hd he
  have hd' : 0 < d := by omega
  zify at below above
  by_cases h : r.start ≤ r.stop
  · have away : (dist r.start r.stop : Int) = (r.stop : Int) - r.start := by unfold dist; omega
    have hv : v = r.start + moved := by simp [v, value, h]
    rw [away] at below above
    refine ⟨fun _ => by rw [hv]; constructor <;> linarith, fun h' => ?_⟩
    have same : r.start = r.stop := le_antisymm h h'
    have stays : moved = 0 := by rw [same] at within; simpa [dist] using within
    rw [hv, stays]
    constructor <;> simp only [line, same] <;> push_cast <;> linarith
  · have away : (dist r.start r.stop : Int) = (r.start : Int) - r.stop := by unfold dist; omega
    have short : moved ≤ r.start := by unfold dist at within; omega
    have hv : v = r.start - moved := by simp [v, value, h, Nat.cast_sub short]
    rw [away] at below above
    exact ⟨fun h' => absurd h' h, fun _ => by rw [hv]; constructor <;> linarith⟩

end Sys2Proof.Machine
end

section
namespace Sys2Proof.Machine

/-! ## An ordinary sample of a fader in TRAVEL or SETTLE -/

/-- The next sample of the fader is neither its first since a RESTART nor preceded by the end of a heat window, and the
fader is master of no group. -/
structure State.Ordinary (s : State) (f : FaderIx) : Prop where
  window : (s.fader f).heat.samples < 20
  first : (s.fader f).track.first = false
  master : s.masterOf f = none

/-- From `s` to `t` fader `f` is sensed: its track items are written, and of its faults no more than TRACK; recalls,
groups and settings stay. -/
structure State.Senses (f : FaderIx) (s t : State) : Prop where
  fader : ∃ (x : Track) (y : FaultItems), y.stallRun = (s.fader f).fault.stallRun ∧
    t.fader f = { s.fader f with track := x, fault := y }
  recalls : t.recalls = s.recalls
  groups : t.groups = s.groups
  settings : t.settings = s.settings

theorem State.Senses.trans {f : FaderIx} {s t u : State} (h : Senses f s t) (k : Senses f t u) : Senses f s u := by
  obtain ⟨x, y, hy, e⟩ := h.fader
  obtain ⟨x', y', hy', e'⟩ := k.fader
  refine ⟨⟨x', y', ?_, by rw [e', e]⟩, k.recalls.trans h.recalls, k.groups.trans h.groups, k.settings.trans h.settings⟩
  rw [hy', e, hy]

/-- A position change of a fader in TRAVEL or SETTLE that is master of no group makes the MOVE test only (R28, R54, R95). -/
theorem State.positionChange_servoed {s : State} {f : FaderIx} (hs : (s.stateOf f).servoed) (hm : s.masterOf f = none) :
    s.positionChange f = s.moveTest f := by
  have tested : (s.moveTest f).stateOf f = s.stateOf f := by rw [State.stateOf, State.moveTest_fader]; rfl
  have follows (t : State) (h : t.masterOf f = none) : t.followMaster f = t := by simp only [State.followMaster, h]
  have drifts : (s.moveTest f).driftTest f = s.moveTest f := by
    rw [State.driftTest, if_neg]
    rintro ⟨parked, -⟩
    rw [tested] at parked
    rcases hs with h | h <;> rw [h] at parked <;> cases parked
  have sound : s.stateOf f ≠ .faulted := by rcases hs with h | h <;> rw [h] <;> nofun
  simp only [State.positionChange, if_neg sound, drifts]
  exact follows _ (by rw [State.masterOf_of_groups (State.moveTest_groups s f), hm])

/-- An ordinary reading of a fader in TRAVEL or SETTLE (R2 to R4). -/
theorem State.senseNext_senses {s : State} {f : FaderIx} (raw : Nat) (hs : (s.stateOf f).servoed)
    (hm : s.masterOf f = none) : Senses f s (s.senseNext f raw) := by
  unfold State.senseNext
  extract_lets old s1 s2
  have read : Senses f s s1 :=
    ⟨⟨_, _, rfl, State.modTrack_fader _ _ _⟩, rfl, rfl, rfl⟩
  have cleared : Senses f s1 s2 := by
    unfold s2
    split
    · refine ⟨⟨_, _, ?_, State.modFault_fader _ _ _⟩, rfl, rfl, rfl⟩
      rfl
    · exact ⟨⟨_, _, rfl, rfl⟩, rfl, rfl, rfl⟩
  have whole := read.trans cleared
  obtain ⟨x, y, -, e⟩ := whole.fader
  split
  · exact whole
  · rw [State.positionChange_servoed (by rwa [State.stateOf, e]) ((State.masterOf_of_groups whole.groups f).trans hm)]
    exact whole.trans ⟨⟨_, _, rfl, State.moveTest_fader _ _ _⟩, State.moveTest_recalls _ _, State.moveTest_groups _ _,
      State.settings_of_base (State.base_moveTest _ _)⟩

/-- An ordinary sample of a fader in TRAVEL or SETTLE, as far as its sensing. -/
theorem State.sensed_senses {s : State} {f : FaderIx} (raw : BitVec 12) (o : s.Ordinary f)
    (hs : (s.stateOf f).servoed) : Senses f s (s.sensed f raw) := by
  have timed : Senses f s (s.sampleTime f) := by
    refine ⟨⟨_, _, ?_, State.modTrack_fader _ _ _⟩, rfl, rfl, rfl⟩
    rfl
  have open_window : s.closeFullWindow f = s := if_neg (Nat.not_le.2 o.window)
  obtain ⟨x, y, -, e⟩ := timed.fader
  have later : ((s.sampleTime f).fader f).track.first = false := by
    rw [State.sampleTime, State.modTrack_fader]; exact o.first
  have next : s.sensed f raw = (s.sampleTime f).senseNext f raw.toNat := by
    rw [State.sensed, open_window, State.sense, later]; rfl
  rw [next]
  exact timed.trans (State.senseNext_senses _ (by rwa [State.stateOf, e])
    ((State.masterOf_of_groups timed.groups f).trans o.master))

/-! ## The motion part of the sample -/

/-- The time of the next sample (R1; log entry 3). -/
def State.sampleAt (s : State) (f : FaderIx) : Time := max s.now (s.fader f).track.nextSample

/-- The position in force after a sample. -/
def State.sampledPos (s : State) (f : FaderIx) (raw : BitVec 12) : Nat := (s.sampleMotion f raw).posOf f

/-- The motion items after a sample, before the test of the arrival window (R44, R47). -/
def State.sampledMotion (s : State) (f : FaderIx) (raw : BitVec 12) : Motion :=
  (s.fader f).motion.sample (s.stateOf f) (s.sampleAt f) (s.sampledPos f raw)

/-- The position after a sample lies within the arrival window of the target. -/
def State.sampledWithin (s : State) (f : FaderIx) (raw : BitVec 12) : Bool :=
  decide (dist (s.sampledPos f raw) (s.targetOf f) ≤ (s.config f).arrivalWindow)

@[simp] theorem State.drives_groups (s : State) (f : FaderIx) : (s.drives f).groups = s.groups := rfl
@[simp] theorem State.drives_settings (s : State) (f : FaderIx) : (s.drives f).settings = s.settings := rfl

/-- The test of the arrival window in TRAVEL (R49). -/
theorem State.windowTest_travel {s : State} {f : FaderIx} (h : s.stateOf f = .travel) :
    (s.windowTest f).fader f =
      if (s.fader f).motion.ramp.isEnded && s.within f (s.targetOf f) then
        { s.fader f with
          record := { (s.fader f).record with state := .settle }, motion := { (s.fader f).motion with settleCount := 0 } }
      else s.fader f := by
  simp only [State.windowTest, h]
  split
  · rw [State.modMotion_fader, State.goTo_fader]; rfl
  · rfl

/-- The test of the arrival window in SETTLE (R50). -/
theorem State.windowTest_settle {s : State} {f : FaderIx} (h : s.stateOf f = .settle) :
    (s.windowTest f).fader f =
      if s.within f (s.targetOf f) then
        { s.fader f with motion := { (s.fader f).motion with settleCount := (s.fader f).motion.settleCount + 1 } }
      else { s.fader f with
        record := { (s.fader f).record with state := .travel }, motion := { (s.fader f).motion with settleCount := 0 } } := by
  simp only [State.windowTest, h]
  split
  · rw [State.modMotion_fader]
  · rw [State.modMotion_fader, State.goTo_fader]; rfl

/-- A fader's items with its own state written again. -/
theorem Fader.state_self {x : Fader} {st : FaderState} (h : x.record.state = st) (m : Motion) :
    ({ x with motion := m } : Fader) = { x with record := { x.record with state := st }, motion := m } := by
  subst h
  rfl

/-- The motion part of a sample leaves fader `f` in the state `st` with the motion items `m`: of its record only the state
has been written, the STALL run stands, and so do recalls, groups and settings. -/
structure State.SampledTo (f : FaderIx) (s p : State) (st : FaderState) (m : Motion) : Prop where
  record : (p.fader f).record = { (s.fader f).record with state := st }
  motion : (p.fader f).motion = m
  stallRun : (p.fader f).fault.stallRun = (s.fader f).fault.stallRun
  recalls : p.recalls = s.recalls
  groups : p.groups = s.groups
  settings : p.settings = s.settings

section moving
variable {s : State} {f : FaderIx} {raw : BitVec 12}

/-- The sample as far as its drive level (R44, R47). -/
theorem State.sampledTo_drives (o : s.Ordinary f) (hs : (s.stateOf f).servoed) :
    SampledTo f s ((s.sensed f raw).drives f) (s.stateOf f) (s.sampledMotion f raw) ∧
      ((s.sensed f raw).drives f).posOf f = s.sampledPos f raw := by
  have sensed := State.sensed_senses raw o hs
  obtain ⟨x, y, hy, e⟩ := sensed.fader
  have pos : (s.sensed f raw).posOf f = s.sampledPos f raw :=
    congrArg Track.pos (s.sampleMotion_track f raw).symm
  have state : (s.sensed f raw).stateOf f = s.stateOf f := by rw [State.stateOf, e]; rfl
  refine ⟨⟨?_, ?_, ?_, (State.drives_recalls _ f).trans sensed.recalls, (State.drives_groups _ f).trans sensed.groups,
    (State.drives_settings _ f).trans sensed.settings⟩, ?_⟩
  · rw [State.drives_fader, e]; rfl
  · rw [State.drives_fader, state, s.sensed_now, pos, e]; rfl
  · rw [State.drives_fader, e]; exact hy
  · rw [State.posOf, State.drives_fader, ← pos]; rfl

/-- The test of the arrival window compares the position of the sample with the target. -/
theorem State.within_drives (o : s.Ordinary f) (hs : (s.stateOf f).servoed) :
    ((s.sensed f raw).drives f).within f (((s.sensed f raw).drives f).targetOf f) = s.sampledWithin f raw := by
  obtain ⟨sampled, pos⟩ := State.sampledTo_drives (raw := raw) o hs
  have target : ((s.sensed f raw).drives f).targetOf f = s.targetOf f := by rw [State.targetOf, sampled.record]; rfl
  have config : ((s.sensed f raw).drives f).config f = s.config f := by rw [State.config, sampled.settings]; rfl
  rw [State.within, target, config, pos]
  rfl

/-- What the test of the arrival window makes of the sampled fader. -/
theorem State.SampledTo.windowTest {u : State} {st st' : FaderState} {m m' : Motion} (h : SampledTo f s u st m)
    (he : (u.windowTest f).fader f = { u.fader f with record := { (u.fader f).record with state := st' }, motion := m' }) :
    SampledTo f s (u.windowTest f) st' m' := by
  have groups : (u.windowTest f).groups = u.groups := by
    unfold State.windowTest; split <;> (try split) <;> simp
  refine ⟨by rw [he, h.record], by rw [he], by rw [he]; exact h.stallRun, (u.windowTest_recalls f).trans h.recalls,
    groups.trans h.groups, (State.settings_of_base (State.base_windowTest u f)).trans h.settings⟩

/-- A sample in TRAVEL: with the ramp ended and the position within its window the fader enters SETTLE (R49). -/
theorem State.sampledTo_travel (o : s.Ordinary f) (hs : s.stateOf f = .travel) :
    (((s.sampledMotion f raw).ramp.isEnded && s.sampledWithin f raw) = true →
        SampledTo f s (s.sampleMotion f raw) .settle { s.sampledMotion f raw with settleCount := 0 }) ∧
      (((s.sampledMotion f raw).ramp.isEnded && s.sampledWithin f raw) = false →
        SampledTo f s (s.sampleMotion f raw) .travel (s.sampledMotion f raw)) := by
  have moving : (s.stateOf f).servoed := .inl hs
  obtain ⟨sampled, -⟩ := State.sampledTo_drives (raw := raw) o moving
  have state : ((s.sensed f raw).drives f).stateOf f = .travel := by rw [State.stateOf, sampled.record]; exact hs
  have tested := State.windowTest_travel state
  rw [State.within_drives o moving, sampled.motion] at tested
  rw [s.sampleMotion_eq]
  refine ⟨fun h => ?_, fun h => ?_⟩
  · rw [if_pos h] at tested
    exact sampled.windowTest tested
  · rw [if_neg (Bool.eq_false_iff.1 h)] at tested
    refine sampled.windowTest (tested.trans ?_)
    rw [← sampled.motion]
    exact Fader.state_self state _

/-- A sample in SETTLE counts within the window, and sends the fader back to TRAVEL outside it (R50). -/
theorem State.sampledTo_settle (o : s.Ordinary f) (hs : s.stateOf f = .settle) :
    (s.sampledWithin f raw = true → SampledTo f s (s.sampleMotion f raw) .settle
        { s.sampledMotion f raw with settleCount := (s.sampledMotion f raw).settleCount + 1 }) ∧
      (s.sampledWithin f raw = false →
        SampledTo f s (s.sampleMotion f raw) .travel { s.sampledMotion f raw with settleCount := 0 }) := by
  have moving : (s.stateOf f).servoed := .inr hs
  obtain ⟨sampled, -⟩ := State.sampledTo_drives (raw := raw) o moving
  have state : ((s.sensed f raw).drives f).stateOf f = .settle := by rw [State.stateOf, sampled.record]; exact hs
  have tested := State.windowTest_settle state
  rw [State.within_drives o moving, sampled.motion] at tested
  rw [s.sampleMotion_eq]
  refine ⟨fun h => ?_, fun h => ?_⟩
  · rw [if_pos h] at tested
    exact sampled.windowTest (tested.trans (Fader.state_self state _))
  · rw [if_neg (Bool.eq_false_iff.1 h)] at tested
    exact sampled.windowTest tested

end moving

end Sys2Proof.Machine
end

section
namespace Sys2Proof.Machine

/-! ## The end of a sample at which nothing latches, or something does -/

/-- From `s` to `t` nothing but the fault items of fader `f` is written, as far as fader, recalls and notices show. -/
structure State.OnlyFaults (f : FaderIx) (s t : State) : Prop where
  fader : ∃ x : FaultItems, t.fader f = { s.fader f with fault := x }
  recalls : t.recalls = s.recalls
  notices : t.notices = s.notices

theorem State.OnlyFaults.trans {f : FaderIx} {s t u : State} (h : OnlyFaults f s t) (k : OnlyFaults f t u) :
    OnlyFaults f s u := by
  obtain ⟨x, e⟩ := h.fader
  obtain ⟨y, e'⟩ := k.fader
  exact ⟨⟨y, by rw [e', e]⟩, k.recalls.trans h.recalls, k.notices.trans h.notices⟩

/-- A condition that is tested and found not current does not latch (R75). -/
theorem State.onlyFaults_tested (s : State) (f : FaderIx) (g : FaultItems → FaultItems) (c : Cond)
    (h : (g (s.fader f).fault).current.has c = false) : OnlyFaults f s ((s.modFault f g).latchIfWatched f c) := by
  have passed : (s.modFault f g).latchIfWatched f c = s.modFault f g := by
    rw [State.latchIfWatched, if_neg]
    rw [State.modFault_fader, h]
    simp
  rw [passed]
  exact ⟨⟨_, State.modFault_fader _ _ _⟩, rfl, rfl⟩

/-- A sample that does not qualify, or that opens a run, does not find STALL current (R72). -/
theorem stallTest_not_current (now : Time) {q : Bool} (pos : Nat) {run : Option (Time × Nat)}
    (h : q = false ∨ run = none) : (stallTest now q pos run).2 = false := by
  unfold stallTest
  rcases h with rfl | rfl
  · rfl
  · split <;> rfl

/-- No condition is current at a sample that is IN-WINDOW, with OVERCURRENT inactive and no STALL run (R72 to R74). -/
theorem State.monitor_onlyFaults {s : State} {f : FaderIx} (hc : (s.fader f).track.cls = .inWindow)
    (hr : (s.fader f).stallQualifies = false ∨ (s.fader f).fault.stallRun = none) :
    OnlyFaults f s (s.monitor f false false) := by
  have stall : OnlyFaults f s (s.stallSample f) := s.onlyFaults_tested f _ .stall (stallTest_not_current _ _ hr)
  have track : OnlyFaults f (s.stallSample f) ((s.stallSample f).trackSample f false) := by
    obtain ⟨x, e⟩ := stall.fader
    refine State.onlyFaults_tested _ f _ .track ?_
    simp [runTest, e, hc, CondSet.has]
  exact (stall.trans track).trans (State.onlyFaults_tested _ f _ .overcurrent rfl)

/-- What every step of the Fault Monitor keeps, it keeps. -/
theorem State.monitor_keeps {P : State → Prop} {s : State} (f : FaderIx) (active finding : Bool) (hs : P s)
    (hf : ∀ t g, P t → P (t.modFault f g)) (hn : ∀ t c, P t → P (t.raise (.fault f c)))
    (hr : ∀ t, P t → P (t.faultRecord f)) : P (s.monitor f active finding) := by
  have latched (t : State) (c : Cond) (h : P t) : P (t.latch f c) := by
    simp only [State.latch]
    split
    · exact h
    · split
      · exact hr _ (hn _ _ (hf _ _ h))
      · exact hn _ _ (hf _ _ h)
  have tested (t : State) (g : FaultItems → FaultItems) (c : Cond) (h : P t) :
      P ((t.modFault f g).latchIfWatched f c) := by
    unfold State.latchIfWatched
    split
    · exact latched _ c (hf _ _ h)
    · exact hf _ _ h
  refine tested _ _ _ ?_
  unfold State.trackSample
  split
  · exact tested _ _ _ hs
  · exact tested _ _ _ (tested _ _ _ hs)

/-- A latched set that has become non-empty puts the fader into FAULTED (R36). -/
theorem State.faultRecord_stateOf (s : State) (f : FaderIx) : (s.faultRecord f).stateOf f = .faulted := by
  unfold State.faultRecord
  extract_lets old st s1 s2 s3 s4
  have faulted : (s4.claimEnded f old).stateOf f = .faulted := by
    have noted : s4.fader f = s2.fader f := by unfold s4 s3; split <;> simp
    rw [State.stateOf, State.claimEnded_fader, noted]
    simp [s2, State.goTo_fader]
  rw [State.stateOf_evalLead_grant _ (by rw [faulted]; rfl), faulted]

/-- The Fault Monitor leaves a fader's record alone, or the fader is FAULTED. -/
theorem State.monitor_record (s : State) (f : FaderIx) (active finding : Bool) :
    ((s.monitor f active finding).fader f).record = (s.fader f).record ∨
      (s.monitor f active finding).stateOf f = .faulted :=
  State.monitor_keeps (P := fun t => (t.fader f).record = (s.fader f).record ∨ t.stateOf f = .faulted) f active finding
    (.inl rfl) (fun t g h => by simpa [State.stateOf] using h) (fun _ _ h => h)
    fun t _ => .inr (t.faultRecord_stateOf f)

/-! ## The end of a sample in TRAVEL or SETTLE that is no arrival -/

section under_way
variable {p : State} {f : FaderIx}

theorem FaderState.servoed.finding_eq {st : FaderState} (h : st.servoed) : st.finding = false := by
  rcases h with rfl | rfl <;> rfl

theorem State.sampleEnds_under_way (hs : (p.stateOf f).servoed) (hd : p.arrivalDue f = false) (active : Bool) :
    p.sampleEnds f active false = (p.monitor f active false).settleRecalls := by
  have here : p.arriveIfDue f = p := by rw [State.arriveIfDue, hd]; rfl
  rw [State.sampleEnds_eq, here, State.calSample_other hs.finding_eq, hs.finding_eq]

/-- The sample ends with record and motion as they are, or with the fader FAULTED and the motor off (R36). -/
theorem State.sampleEnds_kept_or_faulted (hs : (p.stateOf f).servoed) (hd : p.arrivalDue f = false)
    (hr : p.recallsOpen) (active : Bool) :
    let t := p.sampleEnds f active false
    ((t.fader f).record = (p.fader f).record ∧ (t.fader f).motion = (p.fader f).motion) ∨
      (t.stateOf f = .faulted ∧ (t.fader f).motion = (p.fader f).motion.off) := by
  intro t
  have ends : t = (p.monitor f active false).settleRecalls := State.sampleEnds_under_way hs hd active
  rw [ends]
  rcases p.monitor_monitors f active false with ⟨state, motion, recalls⟩ | ⟨state, motion⟩
  · have sound : (p.monitor f active false).stateOf f ≠ .faulted := by
      rw [state]
      rcases hs with h | h <;> rw [h] <;> nofun
    rw [State.settleRecalls_open (by rwa [State.recallsOpen, recalls])]
    exact .inl ⟨(p.monitor_record f active false).resolve_right sound, motion⟩
  · have spared := (State.HandsOut.settleRecalls (f := f) (p.monitor f active false)).spares (by rw [state]; rfl)
    exact .inr ⟨by rw [State.stateOf, spared.fader]; exact state, by rw [spared.fader, motion]⟩

/-- At an IN-WINDOW sample with OVERCURRENT inactive and no STALL run nothing latches. -/
theorem State.sampleEnds_kept (hs : (p.stateOf f).servoed) (hd : p.arrivalDue f = false) (hr : p.recallsOpen)
    (hc : (p.fader f).track.cls = .inWindow) (hn : (p.fader f).fault.stallRun = none) :
    let t := p.sampleEnds f false false
    (t.fader f).record = (p.fader f).record ∧ (t.fader f).motion = (p.fader f).motion := by
  intro t
  have quiet := State.monitor_onlyFaults hc (.inr hn)
  have ends : t = p.monitor f false false := by
    rw [← State.settleRecalls_open (s := p.monitor f false false) (by rwa [State.recallsOpen, quiet.recalls])]
    exact State.sampleEnds_under_way hs hd false
  obtain ⟨x, e⟩ := quiet.fader
  rw [ends, e]
  exact ⟨rfl, rfl⟩

end under_way

/-! ## Arrival (R51, R52) -/

/-- The claim stands at an arrival (R52): NONE, LANE, and FOLLOW while its master leads. -/
def State.claimStands (s : State) (f : FaderIx) : Bool :=
  match s.claimOf f with
  | .none => true
  | .lane _ => true
  | .follow g => s.leading g
  | _ => false

/-- The planned arrival cleared, with which every arrival begins (R51). -/
def State.unplanned (s : State) (f : FaderIx) : State := s.modRecord f fun r => { r with planned := none }

section resolve
variable {s : State} {f : FaderIx}

@[simp] theorem State.unplanned_fader (s : State) (f : FaderIx) : (s.unplanned f).fader f = { s.fader f with
    record := { (s.fader f).record with planned := none } } := State.modRecord_fader _ _ _

theorem State.unplanned_groups (s : State) (f : FaderIx) : (s.unplanned f).groups = s.groups := rfl
theorem State.unplanned_claimOf (s : State) (f : FaderIx) : (s.unplanned f).claimOf f = s.claimOf f := by
  rw [State.claimOf, State.unplanned_fader]; rfl

theorem State.resolveArrival_stands (h : s.claimStands f = true) : s.resolveArrival f = s.unplanned f := by
  have claim := s.unplanned_claimOf f
  unfold State.claimStands at h
  unfold State.resolveArrival
  match hc : s.claimOf f with
  | .none => rw [hc] at claim; simp only [State.unplanned] at claim ⊢; rw [claim]
  | .lane b => rw [hc] at claim; simp only [State.unplanned] at claim ⊢; rw [claim]
  | .follow g =>
    have leads : (s.unplanned f).leading g = true := by rw [hc] at h; exact h
    rw [hc] at claim
    simp only [State.unplanned] at claim leads ⊢
    simp only [claim, leads, if_true]
  | .direct => rw [hc] at h; cases h
  | .recall tag i => rw [hc] at h; cases h

/-- A DIRECT claim, or a FOLLOW one whose master does not lead, ends ARRIVED (R52). -/
theorem State.resolveArrival_reports
    (h : s.claimOf f = .direct ∨ ∃ g, s.claimOf f = .follow g ∧ s.leading g = false) :
    s.resolveArrival f =
      (((s.unplanned f).reportEnd f .arrived).clearClaim f).claimEnded f (s.claimOf f) := by
  have claim := s.unplanned_claimOf f
  unfold State.resolveArrival
  rcases h with hc | ⟨g, hc, hg⟩
  · rw [hc] at claim ⊢
    simp only [State.unplanned] at claim ⊢
    simp only [claim]
  · have leads : (s.unplanned f).leading g = false := hg
    rw [hc] at claim ⊢
    simp only [State.unplanned] at claim leads ⊢
    simp only [claim, leads, Bool.false_eq_true, if_false]

/-- A RECALL entry resolves ARRIVED up to its deadline and LATE after it (R52). -/
theorem State.resolveArrival_recall {tag i : Nat} {due : Time} (hc : s.claimOf f = .recall tag i)
    (hd : (s.fader f).record.deadline = some due) :
    s.resolveArrival f = (((s.unplanned f).writeOutcome tag i (if s.now ≤ due then .arrived else .late)).clearClaim
      f).claimEnded f (.recall tag i) := by
  have claim := (s.unplanned_claimOf f).trans hc
  have deadline : ((s.unplanned f).fader f).record.deadline = some due := by rw [State.unplanned_fader]; exact hd
  unfold State.resolveArrival
  simp only [State.unplanned] at claim deadline ⊢
  simp only [claim, deadline]
  rfl

/-- The fader's items once its claim has ended (R26). -/
theorem State.claimEnded_clearClaim_fader (s : State) (f : FaderIx) (c : Claim) :
    ((s.clearClaim f).claimEnded f c).fader f = { s.fader f with record := { (s.fader f).record with
      claim := .none, planned := none, deadline := none, expiry := none } } := by
  rw [State.claimEnded_fader, State.clearClaim_fader]

/-- A claim that does not stand is ended at the arrival, with its times (R26, R52). -/
theorem State.resolveArrival_ends (h : s.claimStands f = false) :
    (s.resolveArrival f).fader f = { s.fader f with record := { (s.fader f).record with
      claim := .none, planned := none, deadline := none, expiry := none } } := by
  have claim := s.unplanned_claimOf f
  unfold State.claimStands at h
  match hc : s.claimOf f with
  | .none => rw [hc] at h; cases h
  | .lane b => rw [hc] at h; cases h
  | .direct =>
    rw [State.resolveArrival_reports (.inl hc), State.claimEnded_clearClaim_fader, State.reportEnd_fader,
      State.unplanned_fader]
  | .follow g =>
    rw [hc] at h
    rw [State.resolveArrival_reports (.inr ⟨g, hc, h⟩), State.claimEnded_clearClaim_fader, State.reportEnd_fader,
      State.unplanned_fader]
  | .recall tag i =>
    rw [hc] at claim
    unfold State.resolveArrival
    simp only [State.unplanned] at claim
    simp only [claim]
    rw [State.claimEnded_clearClaim_fader, State.writeOutcome_fader, State.modRecord_fader]

end resolve

end Sys2Proof.Machine
end

section
namespace Sys2Proof.Machine

/-! ## A fader that arrives (R51, R52) -/

/-- The fader parks with its hold target at the target (R51). -/
def State.parkedAtTarget (s : State) (f : FaderIx) : State :=
  (s.goTo f .parked).modRecord f fun r => { r with hold := r.target }

section arrive
variable {s : State} {f : FaderIx}

theorem State.parkedAtTarget_fader (s : State) (f : FaderIx) : (s.parkedAtTarget f).fader f = { s.fader f with
    record := { (s.fader f).record with state := .parked, hold := (s.fader f).record.target }
    motion := (s.fader f).motion.off } := by
  rw [State.parkedAtTarget, State.modRecord_fader, State.goTo_fader]
  rfl

theorem State.parkedAtTarget_groups (s : State) (f : FaderIx) : (s.parkedAtTarget f).groups = s.groups := by
  rw [State.parkedAtTarget, State.modRecord_groups, State.goTo_groups]
theorem State.parkedAtTarget_recalls (s : State) (f : FaderIx) : (s.parkedAtTarget f).recalls = s.recalls := by
  rw [State.parkedAtTarget, State.modRecord_recalls, State.goTo_recalls]
theorem State.parkedAtTarget_now (s : State) (f : FaderIx) : (s.parkedAtTarget f).now = s.now :=
  State.now_of_base (by simp [State.parkedAtTarget])
theorem State.parkedAtTarget_posOf (s : State) (f : FaderIx) : (s.parkedAtTarget f).posOf f = s.posOf f := by
  rw [State.posOf, State.parkedAtTarget_fader]; rfl
theorem State.parkedAtTarget_claimOf (s : State) (f : FaderIx) : (s.parkedAtTarget f).claimOf f = s.claimOf f := by
  rw [State.claimOf, State.parkedAtTarget_fader]; rfl
theorem State.leading_of_groups {s t : State} (h : t.groups = s.groups) (g : GroupIx) : t.leading g = s.leading g := by
  simp only [State.leading, State.group, h]
theorem State.clampedOf_of_groups {s t : State} (h : t.groups = s.groups) (f : FaderIx) :
    t.clampedOf f = s.clampedOf f := by
  simp only [State.clampedOf, State.memberOf_of_groups h]
theorem State.parkedAtTarget_claimStands (s : State) (f : FaderIx) :
    (s.parkedAtTarget f).claimStands f = s.claimStands f := by
  have leads (g : GroupIx) := State.leading_of_groups (s.parkedAtTarget_groups f) g
  unfold State.claimStands
  rw [State.parkedAtTarget_claimOf]
  split
  · rfl
  · rfl
  · exact leads _
  · rfl

/-- After the claim is resolved, the MOVE test, the lead and the grant rule leave a fader that is master of no group as it
is, with its MOTION notice, and write no outcome. -/
theorem State.arrive_resolved (hm : s.masterOf f = none) :
    (s.arrive f).fader f = ((s.parkedAtTarget f).resolveArrival f).fader f ∧
      (s.arrive f).recalls = ((s.parkedAtTarget f).resolveArrival f).recalls ∧
      ∀ n ∈ ((s.parkedAtTarget f).resolveArrival f).notices, n.key = .fader f .motion → n ∈ (s.arrive f).notices := by
  obtain ⟨q, hq⟩ : ∃ q, q = s.parkedAtTarget f := ⟨_, rfl⟩
  obtain ⟨v, hv⟩ : ∃ v, v = (q.resolveArrival f).entryTest f (s.arrivalRaises f) := ⟨_, rfl⟩
  have ends : s.arrive f = (v.evalLead f).grant := by rw [hv, hq]; rfl
  have fader : v.fader f = (q.resolveArrival f).fader f := by rw [hv, State.entryTest_fader]
  have parked : v.stateOf f = .parked := by
    rw [State.stateOf, fader, (State.resolveArrival_sameButRecord q f f).state, hq, State.parkedAtTarget_fader]
  have spared : Spares f v (s.arrive f) := by
    rw [ends]
    cases stands : q.claimStands f with
    | true =>
      have groups : v.groups = s.groups := by
        rw [hv, State.entryTest_groups, State.resolveArrival_stands stands, State.unplanned_groups, hq,
          State.parkedAtTarget_groups]
      rw [State.evalLead_of_no_group ((State.masterOf_of_groups groups f).trans hm)]
      exact .grant v (by rw [parked]; rfl)
    | false =>
      have free : v.claimOf f = .none := by rw [State.claimOf, fader, State.resolveArrival_ends stands]
      exact .evalLead_grant f (.inl (by rw [free]; rfl)) (by rw [parked]; rfl)
  rw [← hq]
  refine ⟨spared.fader.trans fader, ?_, fun n hn hk => spared.notices n ?_ _ hk⟩
  · rw [ends, State.grant_recalls, State.evalLead_recalls, hv, State.entryTest_recalls]
  · rw [hv]
    exact State.mem_entryTest _ hn (by rw [hk]; nofun)

/-- At its arrival the fader is PARKED with hold target at the target and the motor off; its claim stands, or is ended
with its times (R51, R52). -/
theorem State.arrive_fader (hm : s.masterOf f = none) : (s.arrive f).fader f = { s.fader f with
    record := if s.claimStands f
      then { (s.fader f).record with state := .parked, hold := s.targetOf f, planned := none }
      else { (s.fader f).record with
        state := .parked, hold := s.targetOf f, claim := .none, planned := none, deadline := none, expiry := none }
    motion := (s.fader f).motion.off } := by
  rw [(State.arrive_resolved hm).1]
  cases h : s.claimStands f with
  | true =>
    rw [State.resolveArrival_stands ((s.parkedAtTarget_claimStands f).trans h), State.unplanned_fader,
      State.parkedAtTarget_fader, if_pos rfl, State.targetOf]
  | false =>
    rw [State.resolveArrival_ends ((s.parkedAtTarget_claimStands f).trans h), State.parkedAtTarget_fader,
      if_neg Bool.false_ne_true, State.targetOf]

/-- A DIRECT claim's arrival is noticed (R27, R52). -/
theorem State.arrive_direct (hm : s.masterOf f = none) (hc : s.claimOf f = .direct) :
    Notice.motion f .direct .arrived (s.posOf f) false ∈ (s.arrive f).notices := by
  have claim := (s.parkedAtTarget_claimOf f).trans hc
  refine (State.arrive_resolved hm).2.2 _ ?_ rfl
  rw [State.resolveArrival_reports (.inl claim), State.claimEnded_notices, State.clearClaim_notices, State.reportEnd]
  simp only [(State.unplanned_claimOf _ f).trans claim]
  rw [State.posOf, State.unplanned_fader, ← s.parkedAtTarget_posOf f]
  exact mem_raiseInto _ _ nofun

/-- The arrival of a FOLLOW claim whose master does not lead is noticed (R27, R52). -/
theorem State.arrive_follow {g : GroupIx} (hm : s.masterOf f = none) (hc : s.claimOf f = .follow g)
    (hg : s.leading g = false) :
    Notice.motion f .follow .arrived (s.posOf f) (s.clampedOf f) ∈ (s.arrive f).notices := by
  have claim := (s.parkedAtTarget_claimOf f).trans hc
  have leads := (State.leading_of_groups (s.parkedAtTarget_groups f) g).trans hg
  have clamped : ((s.parkedAtTarget f).unplanned f).clampedOf f = s.clampedOf f :=
    State.clampedOf_of_groups ((State.unplanned_groups _ f).trans (s.parkedAtTarget_groups f)) f
  refine (State.arrive_resolved hm).2.2 _ ?_ rfl
  rw [State.resolveArrival_reports (.inr ⟨g, claim, leads⟩), State.claimEnded_notices, State.clearClaim_notices,
    State.reportEnd]
  simp only [(State.unplanned_claimOf _ f).trans claim, true_or, if_true, clamped]
  rw [State.posOf, State.unplanned_fader, ← s.parkedAtTarget_posOf f]
  exact mem_raiseInto _ _ nofun

/-- Without recalls queued an arrival leaves none. -/
theorem State.arrive_no_recalls (hm : s.masterOf f = none) (hr : s.recalls = []) : (s.arrive f).recalls = [] := by
  have wrote := (WritesHead.resolveArrival (s.parkedAtTarget f) f).length
  rw [(State.arrive_resolved hm).2.1]
  rw [State.parkedAtTarget_recalls, hr] at wrote
  exact List.length_eq_zero_iff.1 wrote

/-- An arrival under the open entry of the head recall writes its outcome (R52, R109). -/
theorem State.arrive_recall {r : Recall} {rest : List Recall} {run : RecallRun} {i : Nat} {due : Time}
    (hm : s.masterOf f = none) (hc : s.claimOf f = .recall r.tag i) (hd : (s.fader f).record.deadline = some due)
    (hs : s.recalls = r :: rest) (hr : r.run = some run) (hi : run.outcomes[i]? = some none) :
    (s.arrive f).recalls = { r with run := some { run with
      outcomes := run.outcomes.set i (some (if s.now ≤ due then .arrived else .late)) } } :: rest := by
  have claim := (s.parkedAtTarget_claimOf f).trans hc
  have deadline : ((s.parkedAtTarget f).fader f).record.deadline = some due := by
    rw [State.parkedAtTarget_fader]; exact hd
  have queued : ((s.parkedAtTarget f).unplanned f).recalls = r :: rest := by
    rw [State.unplanned, State.modRecord_recalls, State.parkedAtTarget_recalls, hs]
  rw [(State.arrive_resolved hm).2.1, State.resolveArrival_recall claim deadline, State.claimEnded_recalls,
    State.clearClaim_recalls, s.parkedAtTarget_now, State.writeOutcome_open _ queued hr hi]

/-- The sample at which a fader arrives: the PARKED fader meets no fault test, and recalls it completes do so at the end. -/
theorem State.sampleEnds_arrival (hd : s.arrivalDue f = true) (hc : (s.fader f).track.cls = .inWindow) :
    ∃ t, OnlyFaults f (s.arrive f) t ∧ t.base = s.base ∧ s.sampleEnds f false false = t.settleRecalls := by
  have settle : s.stateOf f = .settle := of_decide_eq_true (Bool.and_eq_true _ _ ▸ hd : _ ∧ _).1
  have parked := s.arrive_stateOf f
  have track : ((s.arrive f).fader f).track.cls = .inWindow := by
    rw [State.track_of_base (State.base_arrive s f), hc]
  have idle : ((s.arrive f).fader f).stallQualifies = false := by
    rw [State.stateOf] at parked
    simp [Fader.stallQualifies, parked]
  refine ⟨(s.arrive f).monitor f false false, State.monitor_onlyFaults track (.inl idle), by simp, ?_⟩
  rw [State.sampleEnds_eq, State.arriveIfDue, if_pos hd, State.calSample_other (by rw [parked]; rfl), settle]
  rfl

end arrive

end Sys2Proof.Machine
end

section
namespace Sys2Proof.Machine

/-! ## The ramp at a sample (R44) -/

section ramp
variable {m : Motion} {r : RampItems} {now : Time}

theorem Motion.advance_runs_out (h : m.ramp = .running r) (hd : 3 * r.duration ≤ now - r.startTime) :
    m.advance now = { m with setpoint := r.stop, ramp := .ended r } := by
  simp only [Motion.advance, h]
  exact if_pos hd
theorem Motion.advance_running (h : m.ramp = .running r) (hd : now - r.startTime < 3 * r.duration) :
    m.advance now = { m with setpoint := r.setpointAt (now - r.startTime) } := by
  simp only [Motion.advance, h]
  exact if_neg (Nat.not_le.2 hd)
theorem Motion.advance_ended (h : m.ramp = .ended r) : m.advance now = m := by
  simp only [Motion.advance, h]
theorem Motion.advance_settleCount (m : Motion) (now : Time) : (m.advance now).settleCount = m.settleCount := by
  unfold Motion.advance
  split
  · split <;> rfl
  · rfl

/-- A sample in TRAVEL or SETTLE advances ramp and setpoint (R44). -/
theorem Motion.sample_advances (m : Motion) {st : FaderState} (now : Time) (pos : Nat) (h : st.servoed) :
    (m.sample st now pos).setpoint = (m.advance now).setpoint ∧ (m.sample st now pos).ramp = (m.advance now).ramp ∧
      (m.sample st now pos).settleCount = m.settleCount := by
  rcases h with rfl | rfl <;> exact ⟨rfl, rfl, m.advance_settleCount now⟩

end ramp

/-! ## The sampled fader -/

section sample
variable {s : State} {f : FaderIx} {raw : BitVec 12}

theorem State.sampledMotion_advances (hs : (s.stateOf f).servoed) :
    (s.sampledMotion f raw).setpoint = ((s.fader f).motion.advance (s.sampleAt f)).setpoint ∧
      (s.sampledMotion f raw).ramp = ((s.fader f).motion.advance (s.sampleAt f)).ramp ∧
      (s.sampledMotion f raw).settleCount = (s.fader f).motion.settleCount :=
  Motion.sample_advances _ _ _ hs

theorem State.SampledTo.stateOf {p : State} {st : FaderState} {m : Motion} (h : SampledTo f s p st m) :
    p.stateOf f = st := by rw [State.stateOf, h.record]
theorem State.SampledTo.targetOf {p : State} {st : FaderState} {m : Motion} (h : SampledTo f s p st m) :
    p.targetOf f = s.targetOf f := by rw [State.targetOf, h.record]; rfl
theorem State.SampledTo.claimOf {p : State} {st : FaderState} {m : Motion} (h : SampledTo f s p st m) :
    p.claimOf f = s.claimOf f := by rw [State.claimOf, h.record]; rfl
theorem State.SampledTo.arrivalDue {p : State} {st : FaderState} {m : Motion} (h : SampledTo f s p st m) :
    p.arrivalDue f = (decide (st = .settle) && decide (16 ≤ m.settleCount)) := by
  rw [State.arrivalDue, h.stateOf, h.motion]
theorem State.SampledTo.claimStands {p : State} {st : FaderState} {m : Motion} (h : SampledTo f s p st m) :
    p.claimStands f = s.claimStands f := by
  have leads (g : GroupIx) := State.leading_of_groups h.groups g
  unfold State.claimStands
  rw [h.claimOf]
  split
  · rfl
  · rfl
  · exact leads _
  · rfl

/-- A sample at which the ramp has ended, before the arrival is due: the fader is in SETTLE within its window and in TRAVEL
outside it, with the settle count of R49 and R50. -/
theorem State.sampledTo_ended {r : RampItems} (o : s.Ordinary f)
    (hs : s.stateOf f = .travel ∨ s.stateOf f = .settle ∧ (s.fader f).motion.settleCount < 15)
    (hr : (s.sampledMotion f raw).ramp = .ended r) :
    let near := dist (s.sampledPos f raw) (s.targetOf f) ≤ (s.config f).arrivalWindow
    ∃ n, SampledTo f s (s.sampleMotion f raw) (if near then .settle else .travel)
        { s.sampledMotion f raw with settleCount := n } ∧
      (s.sampleMotion f raw).arrivalDue f = false ∧ (s.stateOf f = .travel → near → n = 0) ∧
      (s.stateOf f = .settle → n = if near then (s.fader f).motion.settleCount + 1 else 0) := by
  intro near
  have ended : (s.sampledMotion f raw).ramp.isEnded = true := by rw [hr]; rfl
  rcases hs with hs | ⟨hs, low⟩
  · have sampled := State.sampledTo_travel (raw := raw) o hs
    rw [ended, Bool.true_and] at sampled
    have other : s.stateOf f ≠ .settle := by rw [hs]; nofun
    by_cases h : near
    · have enters := sampled.1 (decide_eq_true h)
      refine ⟨0, by rwa [if_pos h], ?_, fun _ _ => rfl, fun e => absurd e other⟩
      rw [enters.arrivalDue]
      rfl
    · have stays := sampled.2 (decide_eq_false h)
      refine ⟨_, by rw [if_neg h]; exact stays, ?_, fun _ k => absurd k h, fun e => absurd e other⟩
      rw [stays.arrivalDue]
      rfl
  · have sampled := State.sampledTo_settle (raw := raw) o hs
    have other : s.stateOf f ≠ .travel := by rw [hs]; nofun
    by_cases h : near
    · have counts := sampled.1 (decide_eq_true h)
      rw [(State.sampledMotion_advances (.inr hs)).2.2] at counts
      refine ⟨_, by rw [if_pos h]; exact counts, ?_, fun e => absurd e other, fun _ => (if_pos h).symm⟩
      rw [counts.arrivalDue]
      simp only [decide_true, Bool.true_and, decide_eq_false_iff_not]
      omega
    · have leaves := sampled.2 (decide_eq_false h)
      refine ⟨_, by rw [if_neg h]; exact leaves, ?_, fun e => absurd e other, fun _ => (if_neg h).symm⟩
      rw [leaves.arrivalDue]
      rfl

/-- A sample in TRAVEL before the ramp has ended (R44). -/
theorem State.sampledTo_running {r : RampItems} (o : s.Ordinary f) (hs : s.stateOf f = .travel)
    (hr : (s.sampledMotion f raw).ramp = .running r) :
    SampledTo f s (s.sampleMotion f raw) .travel (s.sampledMotion f raw) ∧
      (s.sampleMotion f raw).arrivalDue f = false := by
  have stays := (State.sampledTo_travel (raw := raw) o hs).2 (by rw [hr]; rfl)
  exact ⟨stays, by rw [stays.arrivalDue]; rfl⟩

/-- The sixteenth sample of a SETTLE fader within its window: the arrival is due (R50, R51). -/
theorem State.sampledTo_due (o : s.Ordinary f) (hs : s.stateOf f = .settle)
    (hn : (s.fader f).motion.settleCount = 15)
    (hw : dist (s.sampledPos f raw) (s.targetOf f) ≤ (s.config f).arrivalWindow) :
    ∃ m, SampledTo f s (s.sampleMotion f raw) .settle m ∧ (s.sampleMotion f raw).arrivalDue f = true := by
  have counts := (State.sampledTo_settle (raw := raw) o hs).1 (decide_eq_true hw)
  rw [(State.sampledMotion_advances (.inr hs)).2.2, hn] at counts
  exact ⟨_, counts, by rw [counts.arrivalDue]; rfl⟩

theorem State.sampleMotion_sensed (s : State) (f : FaderIx) (raw : BitVec 12) :
    ((s.sampleMotion f raw).fader f).track =
      Track.sensed { (s.fader f).track with nextSample := s.sampleAt f + 3 }
        (s.config f).calLow (s.config f).calHigh raw.toNat :=
  (s.sampleMotion_track f raw).trans (s.sensed_track f raw)

/-- An IN-WINDOW sample gives the mapped position (R2, R3). -/
theorem State.sampledPos_inside (h : classify (s.config f).calLow (s.config f).calHigh raw.toNat = .inWindow) :
    s.sampledPos f raw = mapRaw (s.config f).calLow (s.config f).calHigh raw.toNat := by
  rw [classify_eq] at h
  rw [State.sampledPos, State.posOf, s.sampleMotion_sensed]
  refine (Track.sensed_inside _ ?_).1
  by_contra hn
  rw [if_neg hn] at h
  cases h

theorem State.sampled_cls (h : classify (s.config f).calLow (s.config f).calHigh raw.toNat = .inWindow) :
    ((s.sampleMotion f raw).fader f).track.cls = .inWindow := by
  rw [s.sampleMotion_sensed, Track.sensed_cls, h]

/-- The end of a sample leaves the position. -/
theorem State.sampleEnds_posOf (s : State) (f : FaderIx) (raw : BitVec 12) (active : Bool) :
    ((s.sampleMotion f raw).sampleEnds f active false).posOf f = s.sampledPos f raw :=
  congrArg Track.pos (State.track_of_base (State.base_sampleEnds _ f active false) f)

/-! ## Servo samples as commands (R1; log entry 12) -/

theorem exec_servoSample (ready : s.part = .ready) (f : FaderIx) (raw : BitVec 12) (active : Bool) :
    exec (.servoSample f raw active) s = .next ((s.sampleMotion f raw).sampleEnds f active false) := by
  change Host.Outcome.next (if s.part = .ready then s.servoSampleAt f raw active else s) = _
  rw [if_pos ready]
  rfl

/-- RAMP_END is the sample at which the ramp runs out (R44). -/
theorem exec_rampEnd (ready : s.part = .ready) (active : Bool) (hr : (s.fader f).motion.ramp.isRunning = true)
    (he : ((s.sampleMotion f raw).fader f).motion.ramp.isEnded = true) :
    exec (.rampEnd f raw active) s = .next ((s.sampleMotion f raw).sampleEnds f active false) := by
  change Host.Outcome.next (if _ then _ else s) = _
  exact congrArg _ (if_pos ⟨ready, hr, he⟩)

/-- ARRIVAL is the sample at which the settle count reaches 16 (R51). -/
theorem exec_arrival (ready : s.part = .ready) (active : Bool) (hd : (s.sampleMotion f raw).arrivalDue f = true) :
    exec (.arrival f raw active) s = .next ((s.sampleMotion f raw).sampleEnds f active false) := by
  change Host.Outcome.next (if _ then _ else s) = _
  exact congrArg _ (if_pos ⟨ready, hd⟩)

/-- A sample leaves the scene pages. -/
theorem State.SamplesOnly.pages {t : State} (h : SamplesOnly f s t) : t.pages = s.pages := (congrArg State.pages h.rest :)

/-- The fader record after an arrival: PARKED with hold target at the target, the claim standing or ended with its times
(R51, R52). -/
def State.arrivedRecord (s : State) (f : FaderIx) : FaderRecord :=
  if s.claimStands f then { (s.fader f).record with state := .parked, hold := s.targetOf f, planned := none }
  else { (s.fader f).record with
    state := .parked, hold := s.targetOf f, claim := .none, planned := none, deadline := none, expiry := none }

theorem State.arrivedRecord_parked (s : State) (f : FaderIx) :
    (s.arrivedRecord f).state = .parked ∧ (s.arrivedRecord f).target = s.targetOf f ∧
      (s.arrivedRecord f).hold = s.targetOf f ∧ (s.arrivedRecord f).planned = none := by
  unfold State.arrivedRecord
  split <;> exact ⟨rfl, rfl, rfl, rfl⟩
theorem State.arrivedRecord_stands (h : s.claimStands f = true) : (s.arrivedRecord f).claim = s.claimOf f := by
  rw [State.arrivedRecord, if_pos h]; rfl
theorem State.arrivedRecord_ends (h : s.claimStands f = false) :
    (s.arrivedRecord f).claim = .none ∧ (s.arrivedRecord f).deadline = none ∧ (s.arrivedRecord f).expiry = none := by
  rw [State.arrivedRecord, h]
  exact ⟨rfl, rfl, rfl⟩

/-- At a sample that brings the arrival about, the fader is left parked by the arrival of the state `p` its motion part
leaves; what follows writes fault items, and completes recalls. -/
theorem State.arrival_sample (ready : s.part = .ready) (o : s.Ordinary f) (hs : s.stateOf f = .settle)
    (hn : (s.fader f).motion.settleCount = 15)
    (hc : classify (s.config f).calLow (s.config f).calHigh raw.toNat = .inWindow)
    (hw : dist (mapRaw (s.config f).calLow (s.config f).calHigh raw.toNat) (s.targetOf f)
      ≤ (s.config f).arrivalWindow) :
    ∃ p m v, SampledTo f s p .settle m ∧ p.now = s.sampleAt f ∧ p.pages = s.pages ∧ p.masterOf f = none ∧
      p.posOf f = mapRaw (s.config f).calLow (s.config f).calHigh raw.toNat ∧
      exec (.arrival f raw false) s = .next v.settleRecalls ∧
      exec (.servoSample f raw false) s = .next v.settleRecalls ∧
      OnlyFaults f (p.arrive f) v ∧ v.base = p.base ∧
      (v.fader f).record = s.arrivedRecord f ∧ (v.fader f).motion = m.off := by
  have pos := State.sampledPos_inside hc
  obtain ⟨m, sampled, due⟩ := State.sampledTo_due (raw := raw) o hs hn (by rwa [pos])
  obtain ⟨v, faults, base, ends⟩ := State.sampleEnds_arrival due (State.sampled_cls hc)
  have master : (s.sampleMotion f raw).masterOf f = none :=
    (State.masterOf_of_groups sampled.groups f).trans o.master
  have pages : (s.sampleMotion f raw).pages = s.pages := (s.sampleMotion_samplesOnly f raw).pages
  obtain ⟨y, fader⟩ := faults.fader
  rw [State.arrive_fader master] at fader
  refine ⟨s.sampleMotion f raw, m, v, sampled, s.sampleMotion_now f raw, pages, master, pos, ?_, ?_, faults, base, ?_, ?_⟩
  · rw [exec_arrival ready false due, ends]
  · rw [exec_servoSample ready, ends]
  · rw [fader, sampled.claimStands, sampled.targetOf, sampled.record]
    rfl
  · rw [fader, sampled.motion]

end sample

end Sys2Proof.Machine
end

section
namespace Sys2Proof.Machine

/-! ## The ramp's end, the settle count and the arrival as commands -/

section commands
variable {s : State} {f : FaderIx} {raw : BitVec 12} {r : RampItems}

/-- The sample at which a TRAVEL fader's ramp runs out (R44). -/
theorem State.sampledMotion_runs_out (hs : s.stateOf f = .travel) (hr : (s.fader f).motion.ramp = .running r)
    (hd : 3 * r.duration ≤ s.sampleAt f - r.startTime) :
    (s.sampledMotion f raw).setpoint = r.stop ∧ (s.sampledMotion f raw).ramp = .ended r := by
  have := State.sampledMotion_advances (raw := raw) (.inl hs)
  rw [Motion.advance_runs_out hr hd] at this
  exact ⟨this.1, this.2.1⟩

/-- A sample along the ramp (R44). -/
theorem State.sampledMotion_running (hs : s.stateOf f = .travel) (hr : (s.fader f).motion.ramp = .running r)
    (hd : s.sampleAt f - r.startTime < 3 * r.duration) :
    (s.sampledMotion f raw).setpoint = r.setpointAt (s.sampleAt f - r.startTime) ∧
      (s.sampledMotion f raw).ramp = .running r := by
  have := State.sampledMotion_advances (raw := raw) (.inl hs)
  rw [Motion.advance_running hr hd] at this
  exact ⟨this.1, this.2.1.trans hr⟩

/-- A sample after the ramp's end (R44). -/
theorem State.sampledMotion_ended (hs : (s.stateOf f).servoed) (hr : (s.fader f).motion.ramp = .ended r) :
    (s.sampledMotion f raw).setpoint = (s.fader f).motion.setpoint ∧ (s.sampledMotion f raw).ramp = .ended r := by
  have := State.sampledMotion_advances (raw := raw) hs
  rw [Motion.advance_ended hr] at this
  exact ⟨this.1, this.2.1.trans hr⟩

theorem State.SampledTo.recallsOpen {p : State} {st : FaderState} {m : Motion} (h : SampledTo f s p st m)
    (hr : s.recallsOpen) : p.recallsOpen := by rwa [State.recallsOpen, h.recalls]

theorem servoed_ite {c : Prop} [Decidable c] : (if c then FaderState.settle else .travel).servoed := by
  split
  · exact .inr rfl
  · exact .inl rfl

/-- R44, R49: the ramp of a TRAVEL fader runs out at this sample. -/
theorem State.rampEnd_sample (ready : s.part = .ready) (hs : s.stateOf f = .travel)
    (hr : (s.fader f).motion.ramp = .running r) (o : s.Ordinary f)
    (hd : 3 * r.duration ≤ s.sampleAt f - r.startTime) (active : Bool) :
    ∃ t, exec (.rampEnd f raw active) s = .next t ∧ exec (.servoSample f raw active) s = .next t ∧
      ((s.sampleMotion f raw).fader f).motion.setpoint = r.stop ∧
      ((s.sampleMotion f raw).fader f).motion.ramp = .ended r ∧
      (s.recallsOpen → (t.fader f).motion.setpoint = r.stop ∧
        (t.stateOf f ≠ .faulted → (t.fader f).motion.ramp = .ended r ∧ t.claimOf f = s.claimOf f ∧
          t.targetOf f = s.targetOf f ∧ t.stateOf f =
            if dist (t.posOf f) (s.targetOf f) ≤ (s.config f).arrivalWindow then .settle else .travel) ∧
        (active = false → (s.fader f).fault.stallRun = none →
          classify (s.config f).calLow (s.config f).calHigh raw.toNat = .inWindow → t.stateOf f ≠ .faulted)) := by
  obtain ⟨setpoint, ramp⟩ := State.sampledMotion_runs_out (raw := raw) hs hr hd
  obtain ⟨n, sampled, due, -, -⟩ := State.sampledTo_ended o (.inl hs) ramp
  obtain ⟨p, hp⟩ : ∃ p, p = s.sampleMotion f raw := ⟨_, rfl⟩
  have pos : (p.sampleEnds f active false).posOf f = s.sampledPos f raw := hp ▸ s.sampleEnds_posOf f raw active
  rw [← hp] at sampled due
  have stop : (p.fader f).motion.setpoint = r.stop := by rw [sampled.motion]; exact setpoint
  have ended : (p.fader f).motion.ramp = .ended r := by rw [sampled.motion]; exact ramp
  have moving : (p.stateOf f).servoed := by rw [sampled.stateOf]; exact servoed_ite
  have runs : exec (.rampEnd f raw active) s = .next (p.sampleEnds f active false) :=
    hp ▸ exec_rampEnd ready active (by rw [hr]; rfl) (by rw [← hp, ended]; rfl)
  rw [← hp]
  refine ⟨p.sampleEnds f active false, runs, hp ▸ exec_servoSample ready f raw active, stop, ended, fun opened => ?_⟩
  have opens := sampled.recallsOpen opened
  refine ⟨?_, fun sound => ?_, fun quiet run inside => ?_⟩
  · rcases State.sampleEnds_kept_or_faulted moving due opens active with ⟨-, motion⟩ | ⟨-, motion⟩
    · rw [motion, stop]
    · rw [motion, ← stop]; rfl
  · obtain ⟨record, motion⟩ :=
      (State.sampleEnds_kept_or_faulted moving due opens active).resolve_right fun h => sound h.1
    refine ⟨by rw [motion, ended], ?_, ?_, ?_⟩
    · rw [State.claimOf, record]; exact sampled.claimOf
    · rw [State.targetOf, record]; exact sampled.targetOf
    · rw [State.stateOf, record, pos]; exact sampled.stateOf
  · subst quiet
    obtain ⟨record, -⟩ := State.sampleEnds_kept moving due opens (hp ▸ State.sampled_cls inside)
      (sampled.stallRun.trans run)
    rw [State.stateOf, record, ← State.stateOf]
    rcases moving with h | h <;> rw [h] <;> nofun

/-- R44, R49, R50: an IN-WINDOW sample of a fader under way that is neither its arrival nor the end of its ramp. -/
theorem State.under_way_sample (ready : s.part = .ready)
    (hs : s.stateOf f = .travel ∨ s.stateOf f = .settle ∧ (s.fader f).motion.settleCount < 15) (o : s.Ordinary f)
    (hr : s.recallsOpen) (hn : (s.fader f).fault.stallRun = none)
    (hc : classify (s.config f).calLow (s.config f).calHigh raw.toNat = .inWindow) :
    let pos := mapRaw (s.config f).calLow (s.config f).calHigh raw.toNat
    let inside := dist pos (s.targetOf f) ≤ (s.config f).arrivalWindow
    let elapsed := s.sampleAt f - r.startTime
    ∃ t, exec (.servoSample f raw false) s = .next t ∧
      ((s.fader f).motion.ramp = .ended r → t.posOf f = pos ∧ (t.fader f).motion.ramp = .ended r ∧
        (t.fader f).motion.setpoint = (s.fader f).motion.setpoint ∧ (t.fader f).record = { (s.fader f).record with
          state := if inside then .settle else .travel } ∧
        (s.stateOf f = .travel → inside → (t.fader f).motion.settleCount = 0) ∧
        (s.stateOf f = .settle → (t.fader f).motion.settleCount =
          if inside then (s.fader f).motion.settleCount + 1 else 0)) ∧
      ((s.fader f).motion.ramp = .running r → s.stateOf f = .travel → elapsed < 3 * r.duration →
        (t.fader f).motion.ramp = .running r ∧ (t.fader f).motion.setpoint = r.setpointAt elapsed ∧
        (t.fader f).record = (s.fader f).record) := by
  intro pos inside elapsed
  have moving : (s.stateOf f).servoed := hs.imp id And.left
  have kept {st : FaderState} {m : Motion} (h : SampledTo f s (s.sampleMotion f raw) st m) (hst : st.servoed)
      (hd : (s.sampleMotion f raw).arrivalDue f = false) :=
    State.sampleEnds_kept (by rwa [h.stateOf]) hd (h.recallsOpen hr)
      (State.sampled_cls hc) (h.stallRun.trans hn)
  refine ⟨_, exec_servoSample ready f raw false, fun he => ?_, fun hrun travel hd => ?_⟩
  · obtain ⟨setpoint, ramp⟩ := State.sampledMotion_ended (raw := raw) moving he
    obtain ⟨n, sampled, due, enters, counts⟩ := State.sampledTo_ended o hs ramp
    obtain ⟨record, motion⟩ := kept sampled servoed_ite due
    rw [State.sampledPos_inside hc] at sampled enters counts
    rw [record, motion, sampled.record, sampled.motion]
    exact ⟨(s.sampleEnds_posOf f raw false).trans (State.sampledPos_inside hc), ramp, setpoint, rfl, enters, counts⟩
  · obtain ⟨setpoint, ramp⟩ := State.sampledMotion_running (raw := raw) travel hrun hd
    obtain ⟨sampled, due⟩ := State.sampledTo_running o travel ramp
    obtain ⟨record, motion⟩ := kept sampled (.inl rfl) due
    rw [record, motion, sampled.record, sampled.motion]
    exact ⟨ramp, setpoint, by rw [← travel]; rfl⟩

/-- R51, R52: a fader arrives with no recall queued. -/
theorem State.arrival_unrecalled (ready : s.part = .ready) (hs : s.stateOf f = .settle)
    (hn : (s.fader f).motion.settleCount = 15) (o : s.Ordinary f) (hr : s.recalls = [])
    (hc : classify (s.config f).calLow (s.config f).calHigh raw.toNat = .inWindow)
    (hw : dist (mapRaw (s.config f).calLow (s.config f).calHigh raw.toNat) (s.targetOf f)
      ≤ (s.config f).arrivalWindow) :
    let pos := mapRaw (s.config f).calLow (s.config f).calHigh raw.toNat
    ∃ t, exec (.arrival f raw false) s = .next t ∧ exec (.servoSample f raw false) s = .next t ∧
      t.stateOf f = .parked ∧ t.posOf f = pos ∧ t.targetOf f = s.targetOf f ∧ t.holdOf f = s.targetOf f ∧
      (t.fader f).record.planned = none ∧ (t.fader f).motion.ramp = .none ∧ (t.fader f).motion.drive = 0 ∧
      (s.claimOf f = .none → t.claimOf f = .none) ∧ (∀ b, s.claimOf f = .lane b → t.claimOf f = .lane b) ∧
      (s.claimOf f = .direct → t.claimOf f = .none ∧ Notice.motion f .direct .arrived pos false ∈ t.notices) ∧
      (∀ g, s.claimOf f = .follow g → s.leading g = true → t.claimOf f = .follow g) ∧
      (∀ g, s.claimOf f = .follow g → s.leading g = false → t.claimOf f = .none ∧
        Notice.motion f .follow .arrived pos (s.clampedOf f) ∈ t.notices) := by
  intro pos
  obtain ⟨p, m, t, sampled, -, -, master, at_pos, arrival, sample, faults, base, record, motion⟩ :=
    State.arrival_sample ready o hs hn hc hw
  have none_queued : t.recalls = [] := faults.recalls.trans (State.arrive_no_recalls master (sampled.recalls.trans hr))
  rw [State.settleRecalls_open fun r h => by rw [none_queued] at h; cases h] at arrival sample
  obtain ⟨parked, target, hold, planned⟩ := s.arrivedRecord_parked f
  rw [← record] at parked target hold planned
  have stands (h : s.claimStands f = true) : t.claimOf f = s.claimOf f := by
    rw [State.claimOf, record, State.arrivedRecord_stands h]
  have ends (h : s.claimStands f = false) : t.claimOf f = .none := by
    rw [State.claimOf, record, (State.arrivedRecord_ends h).1]
  have claimed := sampled.claimOf
  refine ⟨t, arrival, sample, parked, ?_, target, hold, planned, by rw [motion]; rfl, by rw [motion]; rfl,
    fun h => ?_, fun b h => ?_, fun h => ⟨ends ?_, ?_⟩, fun g h hg => ?_, fun g h hg => ⟨ends ?_, ?_⟩⟩
  · rw [State.posOf, State.track_of_base base]; exact at_pos
  · rw [stands (by rw [State.claimStands, h]), h]
  · rw [stands (by rw [State.claimStands, h]), h]
  · rw [State.claimStands, h]
  · rw [faults.notices, show pos = p.posOf f from at_pos.symm]
    exact State.arrive_direct master (claimed.trans h)
  · rw [stands (by rw [State.claimStands, h]; exact hg), h]
  · rw [State.claimStands, h]; exact hg
  · rw [faults.notices, show pos = p.posOf f from at_pos.symm, ← State.clampedOf_of_groups sampled.groups f]
    exact State.arrive_follow master (claimed.trans h) ((State.leading_of_groups sampled.groups g).trans hg)

/-- R52, R109, R112: a fader arrives under the open entry of the only recall. -/
theorem State.arrival_recalled {q : Recall} {run : RecallRun} {i : Nat} {due : Time} (ready : s.part = .ready)
    (hs : s.stateOf f = .settle) (hn : (s.fader f).motion.settleCount = 15) (o : s.Ordinary f)
    (claim : s.claimOf f = .recall q.tag i) (deadline : (s.fader f).record.deadline = some due)
    (hq : s.recalls = [q]) (hrun : q.run = some run) (hi : run.outcomes[i]? = some none)
    (hc : classify (s.config f).calLow (s.config f).calHigh raw.toNat = .inWindow)
    (hw : dist (mapRaw (s.config f).calLow (s.config f).calHigh raw.toNat) (s.targetOf f)
      ≤ (s.config f).arrivalWindow) :
    let left := run.outcomes.set i (some (if s.sampleAt f ≤ due then .arrived else .late))
    ∃ t, exec (.arrival f raw false) s = .next t ∧ exec (.servoSample f raw false) s = .next t ∧ t.now = s.sampleAt f ∧
      t.stateOf f = .parked ∧ t.claimOf f = .none ∧ t.targetOf f = s.targetOf f ∧ t.holdOf f = s.targetOf f ∧
      (t.fader f).record.deadline = none ∧ (t.fader f).record.expiry = none ∧
      (none ∈ left → t.recalls = [{ q with run := some { run with outcomes := left } }]) ∧
      (none ∉ left → t.recalls = [] ∧ Notice.recallEnd q.tag q.page false
        (((s.page q.page).entries.zip left).map fun (e, o) => (e.fader, o.getD .arrived)) ∈ t.notices) := by
  intro left
  obtain ⟨p, m, v, sampled, now, pages, master, -, arrival, sample, faults, base, record, -⟩ :=
    State.arrival_sample ready o hs hn hc hw
  have written : v.recalls = [{ q with run := some { run with outcomes := left } }] := by
    rw [faults.recalls, State.arrive_recall master (sampled.claimOf.trans claim)
      (by rw [sampled.record]; exact deadline) (sampled.recalls.trans hq) hrun hi, now]
  have still_open (h : none ∈ left) : v.recallsOpen := by
    intro q' hq' run' hrun'
    rw [written, List.mem_singleton] at hq'
    subst hq'
    exact Option.some.inj hrun' ▸ h
  have fader : v.settleRecalls.fader f = v.fader f := by
    by_cases h : none ∈ left
    · rw [State.settleRecalls_open (still_open h)]
    · rw [State.settleRecalls_last written rfl h]; rfl
  have record' : (v.settleRecalls.fader f).record = s.arrivedRecord f := by rw [fader, record]
  obtain ⟨parked, target, hold, -⟩ := s.arrivedRecord_parked f
  obtain ⟨ends, no_deadline, no_expiry⟩ := State.arrivedRecord_ends (s := s) (f := f) (by rw [State.claimStands, claim])
  rw [← record'] at parked target hold ends no_deadline no_expiry
  refine ⟨v.settleRecalls, arrival, sample, ?_, parked, ends, target, hold, no_deadline, no_expiry, fun h => ?_, fun h => ?_⟩
  · rw [State.now_of_base (State.base_settleRecalls v), State.now_of_base base, now]
  · rw [State.settleRecalls_open (still_open h), written]
  · have page : v.page q.page = s.page q.page := by
      rw [State.page, State.pages_of_base base, pages]; rfl
    rw [State.settleRecalls_last written rfl h, outcomeItems_done _ _ .arrived h, page]
    exact ⟨rfl, mem_raiseInto _ _ nofun⟩

end commands

/-- Settles O40: each sample is followed through the ramp, the test of the arrival window and the arrival to its end. -/
theorem rampEndsAndFaderArrives : Obligations.RampEndsAndFaderArrives := by
  refine ⟨?_, ?_, ?_, ?_, RampItems.setpointAt_nearest⟩
  · intro f raw active r s ready travel running window first master runs_out
    exact State.rampEnd_sample ready travel running ⟨window, first, master⟩ runs_out active
  · intro f raw r s ready state window first master opens run inside
    exact State.under_way_sample ready state ⟨window, first, master⟩ opens run inside
  · intro f raw s ready settle count window first master none_queued inside pos near
    exact State.arrival_unrecalled ready settle count ⟨window, first, master⟩ none_queued inside near
  · intro f raw q run i due s ready settle count window first master claim deadline queued running opened inside near
    exact State.arrival_recalled ready settle count ⟨window, first, master⟩ claim deadline queued running opened inside near

end Sys2Proof.Machine
end

section
/-! # The drive pool: the admission queue and the slots

What each operation makes of the admission queue (R59) and of the slots (R60). An operation that neither changes a state
nor the queue nor the budget leaves the pool alone; a transition keeps the queue exact; and the grant rule, whatever came
before it, leaves no slot free while a fader waits. -/

namespace Sys2Proof.Machine

/-! ## Operations that leave the pool alone -/

/-- From `s` to `t` the pool has not changed: the queue, the fader states and the budget. -/
structure State.SamePool (s t : State) : Prop where
  queue : t.queue = s.queue
  states : ∀ f, t.stateOf f = s.stateOf f
  budget : t.settings.budget = s.settings.budget

namespace State.SamePool
variable {s t u : State} {f : FaderIx}

theorem refl (s : State) : SamePool s s := ⟨rfl, fun _ => rfl, rfl⟩

theorem trans (h : SamePool s t) (k : SamePool t u) : SamePool s u :=
  ⟨k.queue.trans h.queue, fun f => (k.states f).trans (h.states f), k.budget.trans h.budget⟩

theorem ite {c : Prop} [Decidable c] (ht : c → SamePool s t) (hu : ¬c → SamePool s u) :
    SamePool s (if c then t else u) := by
  split
  · exact ht ‹_›
  · exact hu ‹_›

/-- What may or may not happen leaves the pool alone where its happening does. -/
theorem incase {c : Prop} [Decidable c] (h : SamePool s t) : SamePool s (if c then t else s) :=
  ite (fun _ => h) fun _ => refl s

theorem otherwise {c : Prop} [Decidable c] (h : SamePool s t) : SamePool s (if c then s else t) :=
  ite (fun _ => refl s) fun _ => h

theorem each {g : FaderIx → State → State} (h : ∀ m t, SamePool t (g m t)) {l : List FaderIx} :
    SamePool s (s.each l g) :=
  State.each_keeps (P := SamePool s) (fun m t ht => ht.trans (h m t)) l (refl s)

/-- A state with the same queue, the same faders and the same budget. -/
theorem of_faders (hf : t.faders = s.faders) (hq : t.queue = s.queue) (hb : t.settings.budget = s.settings.budget) :
    SamePool s t :=
  ⟨hq, fun f => by simp only [State.stateOf, State.fader, hf], hb⟩

theorem of_groups (h : s.SameButGroups t) : SamePool s t := by
  obtain ⟨g, rfl⟩ := h
  exact of_faders rfl rfl rfl

theorem modFader {g : Fader → Fader} (h : ∀ x, (g x).record.state = x.record.state) : SamePool s (s.modFader f g) where
  queue := rfl
  states f' := s.fader_modFader_of (P := fun x => x.record.state = s.stateOf f') f f' g rfl fun e => e ▸ h _
  budget := rfl

theorem modRecord {g : FaderRecord → FaderRecord} (h : ∀ r, (g r).state = r.state := by intro r; rfl) :
    SamePool s (s.modRecord f g) := modFader fun x => h x.record
theorem modMotion {g : Motion → Motion} : SamePool s (s.modMotion f g) := modFader fun _ => rfl
theorem modTrack {g : Track → Track} : SamePool s (s.modTrack f g) := modFader fun _ => rfl
theorem modTouch {g : Touch → Touch} : SamePool s (s.modTouch f g) := modFader fun _ => rfl
theorem modHeat {g : Heat → Heat} : SamePool s (s.modHeat f g) := modFader fun _ => rfl
theorem modFault {g : FaultItems → FaultItems} : SamePool s (s.modFault f g) := modFader fun _ => rfl
theorem modLane {g : Lane → Lane} : SamePool s (s.modLane f g) := modFader fun _ => rfl
theorem setCal {c : Option CalRun} : SamePool s (s.setCal f c) := modFader fun _ => rfl

theorem raise {n : Notice} : SamePool s (s.raise n) := of_faders rfl rfl rfl
theorem modConfig {g : FaderSettings → FaderSettings} : SamePool s (s.modConfig f g) := of_faders rfl rfl rfl
theorem modSettings {g : Settings → Settings} (h : (g s.settings).budget = s.settings.budget := by rfl) :
    SamePool s (s.modSettings g) := of_faders rfl rfl h
theorem recalls {l : List Recall} : SamePool s { s with recalls := l } := of_faders rfl rfl rfl
theorem modTimeline {g : Timeline → Timeline} : SamePool s (s.modTimeline g) := of_faders rfl rfl rfl

/-! ### Fader Control, the Group Follower and the Lane Engine -/

theorem moveTest : SamePool s (s.moveTest f) := incase raise
theorem entryTest {q : Bool} : SamePool s (s.entryTest f q) := otherwise moveTest
theorem claimEnded {c : Claim} : SamePool s (s.claimEnded f c) := of_groups (s.sameButGroups_claimEnded f c)
theorem callRetrim : SamePool s (s.callRetrim f) := of_groups (s.sameButGroups_callRetrim f)
theorem layRamp {n : Nat} : SamePool s (s.layRamp f n) := by
  unfold State.layRamp State.layRampFor
  exact modMotion
theorem relayRamp : SamePool s (s.relayRamp f) := by
  unfold State.relayRamp State.layRampFor
  exact ite (fun _ => modMotion) fun _ => layRamp
theorem holdHere : SamePool s (s.holdHere f) := modRecord
theorem clearClaim : SamePool s (s.clearClaim f) := modRecord

theorem evalLead : SamePool s (s.evalLead f) where
  queue := s.evalLead_queue f
  states f' := by
    obtain ⟨r, hr, e⟩ := s.evalLead_sameButRecord f f'
    rw [State.stateOf, e]
    exact hr
  budget := congrArg Settings.budget (State.settings_of_base (s.base_evalLead f))

theorem writeOutcome {tag i : Nat} {o : Outcome} : SamePool s (s.writeOutcome tag i o) := by
  unfold State.writeOutcome
  split
  · exact refl s
  · split
    · exact refl s
    · exact incase (of_faders rfl rfl rfl)

theorem reportEnd {o : Outcome} : SamePool s (s.reportEnd f o) := by
  unfold State.reportEnd
  split
  · exact refl s
  · exact raise
  · exact writeOutcome
  · exact refl s
  · exact incase raise

theorem endCalibration {o : CalOutcome} {n : Option Int} : SamePool s (s.endCalibration f o n) := by
  unfold State.endCalibration
  split
  · exact refl s
  · exact (raise.trans setCal).trans modRecord

theorem disableLane {r : Option LaneReason} : SamePool s (s.disableLane f r) := by
  unfold State.disableLane
  refine incase ?_
  cases r with
  | none => exact modLane
  | some r => exact modLane.trans raise

theorem resolveArrival : SamePool s (s.resolveArrival f) := by
  unfold State.resolveArrival
  extract_lets s1
  have unplanned : SamePool s s1 := modRecord
  refine unplanned.trans ?_
  split
  · exact refl s1
  · exact (reportEnd.trans clearClaim).trans claimEnded
  · exact (writeOutcome.trans clearClaim).trans claimEnded
  · exact refl s1
  · exact otherwise ((reportEnd.trans clearClaim).trans claimEnded)

theorem settleTouch : SamePool s (s.settleTouch f) := by
  unfold State.settleTouch
  extract_lets l
  split
  · split
    · split
      · exact holdHere.trans modRecord
      · exact holdHere.trans modRecord
    · exact ((disableLane.trans clearClaim).trans holdHere).trans claimEnded
  · exact holdHere

theorem capture {on : Bool} : SamePool s (s.capture f on) := modTouch.trans raise

theorem contact : SamePool s s.contact := of_faders (by simp) (by simp) (by simp)
theorem waitIdle : SamePool s s.waitIdle := of_faders rfl rfl rfl

end State.SamePool

/-! ## Operations that keep the queue exact -/

/-- From `s` to `t` the queue stays exact (R59). -/
def State.KeepsQueue (s t : State) : Prop := s.queueExact → t.queueExact

namespace State.KeepsQueue
variable {s t u : State} {f : FaderIx}

theorem refl (s : State) : KeepsQueue s s := id

theorem trans (h : KeepsQueue s t) (k : KeepsQueue t u) : KeepsQueue s u := k ∘ h

theorem same (h : KeepsQueue s t) (k : SamePool t u) : KeepsQueue s u := fun hs => by
  obtain ⟨nodup, mem⟩ := h hs
  refine ⟨k.queue ▸ nodup, fun f => ?_⟩
  rw [k.queue, k.states]
  exact mem f

theorem of_same (h : SamePool s t) : KeepsQueue s t := (refl s).same h

theorem ite {c : Prop} [Decidable c] (ht : c → KeepsQueue s t) (hu : ¬c → KeepsQueue s u) :
    KeepsQueue s (if c then t else u) := by
  split
  · exact ht ‹_›
  · exact hu ‹_›

theorem incase {c : Prop} [Decidable c] (h : KeepsQueue s t) : KeepsQueue s (if c then t else s) :=
  ite (fun _ => h) fun _ => refl s

theorem each {g : FaderIx → State → State} (h : ∀ m t, KeepsQueue t (g m t)) {l : List FaderIx} :
    KeepsQueue s (s.each l g) :=
  State.each_keeps (P := KeepsQueue s) (fun m t ht => ht.trans (h m t)) l (refl s)

end State.KeepsQueue

/-- In an exact queue a fader outside WAITING and CAL-WAIT has no place to give up. -/
theorem State.queueExact.filter_ne {s : State} (h : s.queueExact) {f : FaderIx} (hf : (s.stateOf f).queued = false) :
    s.queue.filter (· ≠ f) = s.queue := by
  refine List.filter_eq_self.2 fun x hx => decide_eq_true ?_
  rintro rfl
  rw [(h.2 x).1 hx] at hf
  cases hf

/-- A transition takes the fader out of an exact queue, and to its tail on entry to WAITING or CAL-WAIT (R16, R59). -/
theorem State.queueExact.goTo_queue {s : State} (h : s.queueExact) (f : FaderIx) (st : FaderState) :
    (s.goTo f st).queue = s.queue.filter (· ≠ f) ++ if st.queued then [f] else [] := by
  rw [State.goTo_queue]
  split
  · rfl
  · rename_i hf
    rw [h.filter_ne (Bool.eq_false_iff.2 hf)]

theorem State.goTo_stateOf (s : State) (f : FaderIx) (st : FaderState) : (s.goTo f st).stateOf f = st := by
  rw [State.stateOf, State.goTo_fader]

theorem State.goTo_stateOf_ne (s : State) {f f' : FaderIx} (st : FaderState) (h : f' ≠ f) :
    (s.goTo f st).stateOf f' = s.stateOf f' := by
  rw [State.stateOf, State.goTo_fader_ne _ _ h, State.stateOf]

namespace State.KeepsQueue
variable {s t u : State} {f : FaderIx}

/-- Every transition keeps the queue exact (R16, R59). -/
theorem goTo {st : FaderState} : KeepsQueue s (s.goTo f st) := by
  intro h
  have hq := h.goTo_queue f st
  obtain ⟨nodup, mem⟩ := h
  refine ⟨?_, fun x => ?_⟩
  · rw [hq]
    have left : (s.queue.filter (· ≠ f)).Nodup := nodup.filter _
    split
    · refine left.append (List.nodup_singleton f) ?_
      simp
    · simpa using left
  · rw [hq]
    by_cases hx : x = f
    · subst hx
      rw [State.goTo_stateOf]
      split <;> simp_all
    · rw [State.goTo_stateOf_ne _ _ hx, ← mem x]
      split <;> simp [hx]

end State.KeepsQueue

/-- What a granted slot makes of the state of a fader of the queue (R60): WAITING goes to TRAVEL, CAL-WAIT to CAL-DOWN. -/
def FaderState.granted : FaderState → FaderState
  | .waiting => .travel
  | .calibrating .calWait => .calibrating .calDown
  | st => st

theorem FaderState.queued_iff {st : FaderState} : st.queued = true ↔ st = .waiting ∨ st = .calibrating .calWait := by
  cases st with
  | calibrating p => cases p <;> simp [FaderState.queued]
  | _ => simp [FaderState.queued]

theorem FaderState.granted_of_not_queued {st : FaderState} (h : st.queued = false) : st.granted = st := by
  unfold FaderState.granted
  split
  · cases h
  · cases h
  · rfl

theorem FaderState.queued_granted (st : FaderState) : st.granted.queued = false := by
  cases h : st.queued
  · rwa [granted_of_not_queued h]
  · rcases queued_iff.1 h with rfl | rfl <;> rfl

theorem State.grantTo_stateOf (s : State) (f : FaderIx) : (s.grantTo f).stateOf f = (s.stateOf f).granted := by
  cases h : (s.stateOf f).queued
  · rw [State.stateOf, (Spares.grantTo s f h).fader]
    exact (FaderState.granted_of_not_queued h).symm
  · rcases FaderState.queued_iff.1 h with hs | hs
    · obtain ⟨m, -, e⟩ := s.grantTo_waiting hs
      rw [State.stateOf, e, hs]
      rfl
    · obtain ⟨m, y, c, -, e⟩ := s.grantTo_calWait hs
      rw [State.stateOf, e, hs]
      rfl

theorem State.grantTo_stateOf_ne (s : State) {f f' : FaderIx} (h : f' ≠ f) :
    (s.grantTo f).stateOf f' = s.stateOf f' := by
  rw [State.stateOf, State.grantTo_fader_ne _ h, State.stateOf]

namespace State.KeepsQueue
variable {s t u : State} {f : FaderIx}

theorem grantTo : KeepsQueue s (s.grantTo f) := by
  rintro ⟨nodup, mem⟩
  rw [State.queueExact, State.grantTo_queue]
  refine ⟨nodup.filter _, fun x => ?_⟩
  by_cases hx : x = f
  · subst hx
    simp [State.grantTo_stateOf, FaderState.queued_granted]
  · simp [hx, State.grantTo_stateOf_ne _ hx, mem x]

theorem grantAlong (l : List FaderIx) (s : State) : KeepsQueue s (Machine.grantAlong l s) := by
  induction l generalizing s with
  | nil => exact refl s
  | cons x l ih =>
    unfold Machine.grantAlong
    exact ite (fun _ => grantTo.trans (ih _)) fun _ => refl s

theorem grant (h : KeepsQueue s t) : KeepsQueue s t.grant := h.trans (grantAlong _ t)

end State.KeepsQueue

/-! ## The grant rule -/

/-- Along the whole queue the grant rule stops where the budget is reached, or empties the queue (R60). -/
theorem poolSettled_grantAlong (l : List FaderIx) (s : State) (h : ∀ f ∈ s.queue, f ∈ l) :
    (grantAlong l s).poolSettled := by
  induction l generalizing s with
  | nil => exact .inl (List.eq_nil_iff_forall_not_mem.2 fun f hf => by cases h f hf)
  | cons x l ih =>
    unfold grantAlong
    split
    · refine ih _ fun f hf => ?_
      rw [State.grantTo_queue, List.mem_filter] at hf
      rcases List.mem_cons.1 (h f hf.1) with rfl | hl
      · simp at hf
      · exact hl
    · exact .inr (Nat.not_lt.1 ‹_›)

/-- After the grant rule no slot is free while a fader waits (R60). -/
theorem State.poolSettled_grant (s : State) : s.grant.poolSettled := poolSettled_grantAlong _ s fun _ h => h

/-! ## Operations that keep the pool settled -/

/-- From `s` to `t` the queue stays exact, and the slots stay with the faders that wait (R59, R60). -/
structure State.KeepsPool (s t : State) : Prop where
  exact : s.KeepsQueue t
  settled : s.poolSettled → t.poolSettled

theorem State.SamePool.holders {s t : State} (h : s.SamePool t) : t.holders = s.holders := by
  refine List.filter_congr fun f _ => ?_
  rw [State.holdsSlot, State.holdsSlot, h.states]

theorem State.mem_holders {s : State} {f : FaderIx} : f ∈ s.holders ↔ (s.stateOf f).driven = true := by
  simp [State.holders, State.holdsSlot, allFaders]

theorem State.holders_nodup (s : State) : s.holders.Nodup := (List.nodup_finRange 16).filter _

/-- Faders in driven states still are holders still. -/
theorem State.holders_length_le {s t : State} (h : ∀ f, (s.stateOf f).driven = true → (t.stateOf f).driven = true) :
    s.holders.length ≤ t.holders.length :=
  (s.holders_nodup.subperm fun _ hf => State.mem_holders.2 (h _ (State.mem_holders.1 hf))).length_le

namespace State.KeepsPool
variable {s t u : State} {f : FaderIx}

theorem refl (s : State) : KeepsPool s s := ⟨.refl s, id⟩

theorem trans (h : KeepsPool s t) (k : KeepsPool t u) : KeepsPool s u := ⟨h.exact.trans k.exact, k.settled ∘ h.settled⟩

theorem of_same (h : SamePool s t) : KeepsPool s t where
  exact := .of_same h
  settled hs := by rwa [State.poolSettled, h.queue, h.budget, h.holders]

theorem same (h : KeepsPool s t) (k : SamePool t u) : KeepsPool s u := h.trans (of_same k)

theorem ite {c : Prop} [Decidable c] (ht : c → KeepsPool s t) (hu : ¬c → KeepsPool s u) :
    KeepsPool s (if c then t else u) := by
  split
  · exact ht ‹_›
  · exact hu ‹_›

theorem incase {c : Prop} [Decidable c] (h : KeepsPool s t) : KeepsPool s (if c then t else s) :=
  ite (fun _ => h) fun _ => refl s

theorem each {g : FaderIx → State → State} (h : ∀ m t, KeepsPool t (g m t)) {l : List FaderIx} :
    KeepsPool s (s.each l g) :=
  State.each_keeps (P := KeepsPool s) (fun m t ht => ht.trans (h m t)) l (refl s)

/-- The grant rule settles the pool, whatever came before it (R60). -/
theorem grant (h : KeepsQueue s t) : KeepsPool s t.grant := ⟨h.grant, fun _ => t.poolSettled_grant⟩

/-- A transition that neither gives up a slot nor takes a place in the queue. -/
theorem goTo {st : FaderState} (hq : st.queued = false) (hd : (s.stateOf f).driven = true → st.driven = true) :
    KeepsPool s (s.goTo f st) where
  exact := .goTo
  settled hs := by
    rcases hs with hs | hs
    · left
      rw [State.goTo_queue, hs]
      simp [hq]
    · right
      have budget : (s.goTo f st).settings = s.settings := State.settings_of_base (s.base_goTo f st)
      rw [budget]
      refine hs.trans (State.holders_length_le fun x hx => ?_)
      by_cases h : x = f
      · subst h
        rw [State.goTo_stateOf]
        exact hd hx
      · rwa [State.goTo_stateOf_ne _ _ h]

end State.KeepsPool

end Sys2Proof.Machine
end

section
namespace Sys2Proof.Machine

/-! # The drive pool through Fader Control, the Recall Engine and the samples -/

namespace State.KeepsQueue
variable {s t u : State} {f : FaderIx}

theorem trip {q : Bool} : KeepsQueue s (s.trip f q) := by
  unfold State.trip
  refine incase (ite (fun _ => ?_) fun _ => ?_)
  · exact goTo.same (SamePool.entryTest.trans .raise)
  · have rests : KeepsQueue s ((s.endCalibration f .timeout none).goTo f .rest) := (of_same .endCalibration).trans goTo
    exact rests.same (((SamePool.clearClaim.trans .holdHere).trans .entryTest).trans .raise)

theorem tripTest {q : Bool} : KeepsQueue s (s.tripTest f q) := by
  unfold State.tripTest
  exact incase trip

theorem enterWaiting {q : Bool} : KeepsQueue s (s.enterWaiting f q) :=
  ((goTo.same .entryTest).trans tripTest).grant

/-- R26: the end of a claim, before the lead is evaluated and the slot offered. -/
theorem dropClaim {o : Outcome} : KeepsQueue s (s.dropClaim f o) := by
  unfold State.dropClaim
  extract_lets old s1 s2
  have ends : SamePool s s1 := (SamePool.reportEnd.trans .clearClaim).trans .holdHere
  have parks : KeepsQueue s1 s2 := incase (goTo.same .entryTest)
  exact ((of_same ends).trans parks).same .claimEnded

theorem parkHere : KeepsQueue s (s.parkHere f) :=
  goTo.same ((SamePool.clearClaim.trans .holdHere).trans .moveTest)

end State.KeepsQueue

namespace State.KeepsPool
variable {s t u : State} {f : FaderIx}

/-! ## Fader Control -/

/-- What ends with the grant rule after transitions, and with a report to the Group Follower before it. -/
theorem evalLead_grant (h : KeepsQueue s t) : KeepsPool s (t.evalLead f).grant := grant (h.same .evalLead)

theorem enterWaiting {q : Bool} : KeepsPool s (s.enterWaiting f q) :=
  grant ((KeepsQueue.goTo.same .entryTest).trans .tripTest)

theorem endClaim {o : Outcome} : KeepsPool s (s.endClaim f o) := evalLead_grant .dropClaim

theorem arrive : KeepsPool s (s.arrive f) := by
  unfold State.arrive
  exact evalLead_grant (KeepsQueue.goTo.same ((SamePool.trans .modRecord .resolveArrival).trans .entryTest))

theorem arriveAtOnce {p : Nat} {q : Bool} : KeepsPool s (s.arriveAtOnce f p q) := by
  unfold State.arriveAtOnce
  extract_lets enters s1 s2 quiet s3
  have aimed : SamePool s s1 := .modRecord
  have parks : KeepsQueue s1 s2 := KeepsQueue.incase .goTo
  have resolved : SamePool s2 s3 := .resolveArrival
  exact grant ((((KeepsQueue.of_same aimed).trans parks).same resolved).same (.incase .entryTest))

/-- TRAVEL again, with its slot kept, and a new ramp (R45). -/
theorem travel {n : Nat} : KeepsPool s ((s.goTo f .travel).layRamp f n) :=
  (goTo rfl fun _ => rfl).same .layRamp

theorem seek {p : Nat} {q : Bool} : KeepsPool s (s.seek f p q) := by
  unfold State.seek
  extract_lets s1
  have aimed : SamePool s s1 := .modRecord
  refine (of_same aimed).trans ?_
  split
  · exact enterWaiting
  · exact of_same .layRamp
  · exact travel
  · exact refl s1

theorem takeClaim {c : Claim} {p : Nat} {planned deadline expiry : Option Time} :
    KeepsPool s (s.takeClaim f c p planned deadline expiry) := by
  unfold State.takeClaim
  extract_lets old s1 s2 s3 quiet s4 s5
  have ends : SamePool s s1 := .ite (fun _ => .disableLane) fun _ => .reportEnd
  have holds : SamePool s1 s2 := .otherwise .modRecord
  have claims : SamePool s2 s3 := .modRecord
  have moves : KeepsPool s3 s4 := ite (fun _ => arriveAtOnce) fun _ => seek
  have told : SamePool s4 s5 := .otherwise .claimEnded
  exact ((of_same ((ends.trans holds).trans claims)).trans moves).same (told.trans .evalLead)

theorem retarget {p : Nat} : KeepsPool s (s.retarget f p) := by
  unfold State.retarget
  refine ite (fun _ => refl s) fun _ => ?_
  extract_lets s1
  have aimed : SamePool s s1 := .modRecord
  refine (of_same aimed).trans ?_
  split
  · exact ite (fun _ => enterWaiting) fun _ => of_same .modRecord
  · exact ite (fun _ => refl s1) fun _ => grant (KeepsQueue.goTo.same (SamePool.trans .modRecord .moveTest))
  · exact of_same .relayRamp
  · exact travel
  · exact refl s1

theorem touchOnRecord : KeepsPool s (s.touchOnRecord f) := by
  unfold State.touchOnRecord
  split
  · exact refl s
  · exact refl s
  · have touched : KeepsQueue s ((s.endCalibration f .touched none).goTo f .touched) :=
      (KeepsQueue.of_same .endCalibration).trans .goTo
    exact evalLead_grant (touched.same ((SamePool.clearClaim.trans .holdHere).trans .moveTest))
  · extract_lets old s1 s2 s3 s4
    have ends : SamePool s s1 := .ite (fun _ => .modRecord) fun _ => SamePool.reportEnd.trans .clearClaim
    have touched : KeepsQueue s1 s2 := KeepsQueue.goTo.same (SamePool.holdHere.trans .entryTest)
    have told : SamePool s2 s4 := SamePool.trans (t := s3) (.incase .raise) (.otherwise .claimEnded)
    exact evalLead_grant (((KeepsQueue.of_same ends).trans touched).same told)

theorem touchOffRecord : KeepsPool s (s.touchOffRecord f) := by
  unfold State.touchOffRecord
  refine incase ?_
  extract_lets s1 s2
  have settled : SamePool s s1 := SamePool.settleTouch.trans .callRetrim
  have leaves : KeepsQueue s1 s2 := .ite (fun _ => KeepsQueue.goTo.same (SamePool.moveTest.trans .raise)) fun _ =>
    .ite (fun _ => .enterWaiting) fun _ => KeepsQueue.goTo.same .moveTest
  exact evalLead_grant ((KeepsQueue.of_same settled).trans leaves)

theorem faultRecord : KeepsPool s (s.faultRecord f) := by
  unfold State.faultRecord
  extract_lets old st s1 s2 s3 s4
  have ends : SamePool s s1 := .ite (fun _ => .disableLane) fun _ => .reportEnd
  have faulted : KeepsQueue s1 s2 :=
    ((KeepsQueue.of_same .endCalibration).trans .goTo).same (SamePool.clearClaim.trans .holdHere)
  have told : SamePool s2 s4 := SamePool.trans (t := s3) .entryTest (.incase .raise)
  exact evalLead_grant (((KeepsQueue.of_same ends).trans faulted).same (told.trans .claimEnded))

theorem leaveFaulted : KeepsPool s (s.leaveFaulted f) := by
  unfold State.leaveFaulted
  split
  · rename_i hf
    extract_lets st s1
    have leaves : KeepsPool s (s.goTo f st) := by
      refine goTo ?_ fun h => ?_
      · unfold st
        split <;> rfl
      · rw [hf] at h
        cases h
    have told : SamePool (s.goTo f st) s1 := (SamePool.clearClaim.trans .holdHere).trans .moveTest
    exact leaves.same (told.trans (SamePool.callRetrim.trans .evalLead))
  · exact refl s

theorem parkCalibrated : KeepsPool s (s.parkCalibrated f) := evalLead_grant .parkHere

theorem driftTest : KeepsPool s (s.driftTest f) := by
  unfold State.driftTest
  exact incase ((of_same .modRecord).trans enterWaiting)

theorem handFollow {g : GroupIx} {p : Nat} : KeepsPool s (s.handFollow g p f) := by
  have clamped {h : Member → Member} : SamePool s (s.modMember f h) := .of_groups (s.sameButGroups_modMember f h)
  unfold State.handFollow
  split
  · exact refl s
  · refine incase ?_
    split
    · exact (of_same clamped).trans takeClaim
    · exact (of_same clamped).trans retarget
    · exact refl s

theorem followMaster : KeepsPool s (s.followMaster f) := by
  unfold State.followMaster
  split
  · exact refl s
  · exact incase (each fun _ _ => handFollow)

theorem positionChange : KeepsPool s (s.positionChange f) := by
  unfold State.positionChange
  extract_lets s1
  have holds : SamePool s s1 := .incase .holdHere
  exact ((of_same (holds.trans .moveTest)).trans driftTest).trans followMaster

theorem tripEvent : KeepsPool s (s.tripEvent f) := evalLead_grant .tripTest

theorem resume : KeepsPool s (s.resume f) := by
  unfold State.resume
  extract_lets quiet s1 s2
  have leaves : KeepsQueue s s2 := .ite (fun _ => .enterWaiting) fun _ =>
    KeepsQueue.goTo.same ((SamePool.trans .modRecord .resolveArrival).trans .entryTest)
  exact evalLead_grant (leaves.same .raise)

theorem resumeTest : KeepsPool s (s.resumeTest f) := by
  unfold State.resumeTest
  exact incase resume

/-! ## The Recall Engine -/

theorem handEntry {tag glide : Nat} {run : RecallRun} {e : Entry} {i : Nat} :
    KeepsPool s (s.handEntry tag glide run e i) := by
  unfold State.handEntry
  split
  · exact of_same .writeOutcome
  · exact of_same .writeOutcome
  · exact of_same .writeOutcome
  · exact takeClaim

theorem handEntries (tag glide : Nat) (run : RecallRun) (l : List (Entry × Nat)) (s : State) :
    KeepsPool s (Machine.handEntries tag glide run l s) := by
  induction l generalizing s with
  | nil => exact refl s
  | cons x l ih => exact handEntry.trans (ih _)

theorem startHead : KeepsPool s s.startHead := by
  unfold State.startHead
  split
  · exact refl s
  · exact (of_same .recalls).trans (handEntries _ _ _ _ _)

theorem startTest {c : TestCause} : KeepsPool s (s.startTest c) := by
  unfold State.startTest
  exact incase startHead

theorem settleAlong (n : Nat) (s : State) : KeepsPool s (Machine.settleAlong n s) := by
  induction n generalizing s with
  | zero => exact refl s
  | succ n ih =>
    unfold Machine.settleAlong
    split
    · exact refl s
    · split
      · exact refl s
      · exact incase (((of_same (SamePool.recalls.trans .raise)).trans startTest).trans (ih _))

theorem settleRecalls : KeepsPool s s.settleRecalls := settleAlong _ s

theorem haltEntries (l : List (Entry × Nat)) (s : State) : KeepsPool s (Machine.haltEntries l s) := by
  induction l generalizing s with
  | nil => exact refl s
  | cons x l ih => exact (incase endClaim).trans (ih _)

/-! ## Touch -/

theorem touchBecomesOn : KeepsPool s (s.touchBecomesOn f) :=
  (((of_same .modTouch).trans touchOnRecord).same .capture).trans settleRecalls

theorem touchBecomesOff : KeepsPool s (s.touchBecomesOff f) :=
  ((of_same .modTouch).trans touchOffRecord).same .capture

theorem debounce {present : Bool} : KeepsPool s (s.debounce f present) := by
  unfold State.debounce
  extract_lets t
  split
  · exact ite (fun _ => touchBecomesOn) fun _ => of_same .modTouch
  · exact of_same .modTouch
  · exact of_same .modTouch
  · exact ite (fun _ => touchBecomesOff) fun _ => of_same .modTouch

theorem touchSampleAt {present : Bool} : KeepsPool s (s.touchSampleAt f present) := by
  unfold State.touchSampleAt State.touchTime
  extract_lets t s1
  have timed : SamePool s s1 := SamePool.trans (t := { s with now := t }) (.of_faders rfl rfl rfl) .modTouch
  exact (of_same timed).trans (incase debounce)

theorem disableTouch : KeepsPool s (s.disableTouch f) := by
  unfold State.disableTouch
  exact ite (fun _ => touchBecomesOff) fun _ => of_same .modTouch

/-! ## Calibration -/

theorem calibrateOne : KeepsPool s (s.calibrateOne f) := by
  unfold State.calibrateOne
  extract_lets old s1 s2 s3
  have ends : SamePool s s1 := .incase ((SamePool.reportEnd.trans .clearClaim).trans .holdHere)
  have waits : KeepsQueue s1 s2 := KeepsQueue.goTo.same .setCal
  have told : SamePool s2 s3 := .trans .modRecord .claimEnded
  exact (grant ((((KeepsQueue.of_same ends).trans waits).same told).trans .tripTest)).same .evalLead

/-- The up phase begins on the slot of the down phase (R82). -/
theorem calDownEnds : KeepsPool s (s.calDownEnds f) :=
  ((goTo rfl fun _ => rfl).same .modMotion).same .setCal

theorem calUpEnds : KeepsPool s (s.calUpEnds f) := by
  unfold State.calUpEnds
  extract_lets high low s1 s2
  have captured : SamePool s s1 := .setCal
  refine (of_same captured).trans (ite (fun _ => ?_) fun _ => (of_same .endCalibration).trans parkCalibrated)
  exact grant (KeepsQueue.goTo.same (SamePool.trans .modRecord .raise))

theorem calTimeout : KeepsPool s (s.calTimeout f) := (of_same .endCalibration).trans parkCalibrated

theorem calSample : KeepsPool s (s.calSample f) := by
  have onwards : KeepsPool s (if s.calTimedOut f then s.calTimeout f else s.calMoves f) :=
    ite (fun _ => calTimeout) fun _ => of_same .setCal
  unfold State.calSample
  split
  · exact ite (fun _ => calDownEnds) fun _ => onwards
  · exact ite (fun _ => calUpEnds) fun _ => onwards
  · exact refl s

theorem acceptCalibration {c : CalResult} : KeepsPool s (s.acceptCalibration f c) := by
  unfold State.acceptCalibration
  extract_lets s1 p s2
  have written : SamePool s s1 := SamePool.modConfig.trans .setCal
  have parks : KeepsQueue s1 s2 := KeepsQueue.goTo.same (SamePool.clearClaim.trans .modRecord)
  exact evalLead_grant (((KeepsQueue.of_same written).trans parks).same .moveTest)

theorem rejectCalibration : KeepsPool s (s.rejectCalibration f) :=
  (of_same (SamePool.setCal.trans .modRecord)).trans parkCalibrated

/-! ## Faults -/

theorem latch {c : Cond} : KeepsPool s (s.latch f c) := by
  unfold State.latch
  extract_lets x s1
  have latched : SamePool s s1 := SamePool.modFault.trans .raise
  exact ite (fun _ => refl s) fun _ => (of_same latched).trans (incase faultRecord)

theorem latchIfWatched {c : Cond} : KeepsPool s (s.latchIfWatched f c) := by
  unfold State.latchIfWatched
  exact incase latch

theorem latchWatched : KeepsPool s (s.latchWatched f) :=
  (latchIfWatched.trans latchIfWatched).trans latchIfWatched

/-- A test's run and its current mark are written, and the condition latched where it is watched (R72 to R75). -/
theorem tested {g : FaultItems → FaultItems} {c : Cond} : KeepsPool s ((s.modFault f g).latchIfWatched f c) :=
  (of_same .modFault).trans latchIfWatched

theorem monitor {active finding : Bool} : KeepsPool s (s.monitor f active finding) := by
  have track (t : State) : KeepsPool t (t.trackSample f finding) := ite (fun _ => refl t) fun _ => tested
  exact ((tested (s := s)).trans (track _)).trans tested

theorem clearFaults {c : CondSet} : KeepsPool s (s.clearFaults f c) := by
  unfold State.clearFaults
  extract_lets s1 s2
  have cleared : SamePool s s1 := .modFault
  have forgot : SamePool s1 s2 := .otherwise .modFault
  exact (of_same cleared).trans (incase ((of_same forgot).trans leaveFaulted))

/-! ## Heat windows and servo samples -/

theorem windowEnd : KeepsPool s (s.windowEnd f) :=
  (((of_same .modHeat).trans tripEvent).trans resumeTest).trans settleRecalls

theorem heatTests : KeepsPool s s.heatTests :=
  ((each fun _ _ => tripEvent).trans (each fun _ _ => resumeTest)).trans settleRecalls

theorem windowTest : KeepsPool s (s.windowTest f) := by
  unfold State.windowTest
  split
  · exact incase ((goTo rfl fun _ => rfl).same .modMotion)
  · exact ite (fun _ => of_same .modMotion) fun _ => (goTo rfl fun _ => rfl).same .modMotion
  · exact refl s

theorem senseFirst {raw : Nat} : KeepsPool s (s.senseFirst f raw) := by
  unfold State.senseFirst
  extract_lets s1 s2
  have sampled : SamePool s s2 := SamePool.trans (t := s1) .modTrack (SamePool.trans .modRecord .modMotion)
  refine (of_same sampled).trans ?_
  split
  · exact arrive
  · exact of_same .layRamp
  · exact travel
  · exact refl s2

theorem senseNext {raw : Nat} : KeepsPool s (s.senseNext f raw) := by
  unfold State.senseNext
  extract_lets old s1 s2
  have sampled : SamePool s s2 := SamePool.trans (t := s1) .modTrack (.incase .modFault)
  exact (of_same sampled).trans (ite (fun _ => refl s2) fun _ => positionChange)

theorem sampleMotion {raw : BitVec 12} : KeepsPool s (s.sampleMotion f raw) := by
  unfold State.sampleMotion
  extract_lets s1 s2 s3
  have timed (t : State) : SamePool t (t.sampleTime f) := by
    unfold State.sampleTime
    extract_lets now
    exact SamePool.trans (t := { t with now := now }) (.of_faders rfl rfl rfl) .modTrack
  have sensed (t : State) : KeepsPool t (t.sense f raw) := ite (fun _ => senseFirst) fun _ => senseNext
  have windowed : KeepsPool s (s.closeFullWindow f) := incase windowEnd
  have driven : SamePool s1 s3 := SamePool.trans (t := s2) .modMotion .modHeat
  exact (((windowed.same (timed _)).trans (sensed _)).same driven).trans windowTest

theorem arriveIfDue : KeepsPool s (s.arriveIfDue f) := by
  unfold State.arriveIfDue
  exact incase arrive

theorem sampleEnds {active first : Bool} : KeepsPool s (s.sampleEnds f active first) := by
  unfold State.sampleEnds
  refine trans (ite (fun _ => ?_) fun _ => ?_) settleRecalls
  · exact (monitor.trans arriveIfDue).trans calSample
  · exact (arriveIfDue.trans calSample).trans monitor

/-- A servo sample whole (R1). -/
theorem sample {raw : BitVec 12} {active first : Bool} :
    KeepsPool s ((s.sampleMotion f raw).sampleEnds f active first) := sampleMotion.trans sampleEnds

/-! ## The Timeline and the lanes -/

theorem laneCount {jump : Bool} : KeepsPool s (s.laneCount f jump) := by
  unfold State.laneCount
  extract_lets old new s1 s2
  have stepped : SamePool s s2 := SamePool.trans (t := s1) .modLane (.incase .raise)
  have handed (v : Nat) : KeepsPool s2 (s2.handLaneValue f v jump) := incase ((of_same .modRecord).trans retarget)
  refine (of_same stepped).trans ?_
  split
  · exact incase (handed _)
  · exact refl s2

theorem countChange {jump : Bool} : KeepsPool s (s.countChange jump) :=
  ((each fun _ _ => laneCount).trans startTest).trans settleRecalls

theorem backwardJump : KeepsPool s s.backwardJump := by
  have flushed (f : FaderIx) (t : State) : SamePool t (t.flushLane f) := SamePool.modLane.trans (.incase .raise)
  exact ((of_same (.each flushed)).trans startTest).trans settleRecalls

theorem frameEvent : KeepsPool s s.frameEvent := by
  have counted : SamePool s (s.modTimeline fun t => { t with count := t.count + 1 }) := .modTimeline
  unfold State.frameEvent
  exact incase ((of_same counted).trans countChange)

theorem setCount {n : Nat} : KeepsPool s (s.setCount n) := by
  unfold State.setCount
  extract_lets old s1
  have counted : SamePool s s1 := .modTimeline
  exact ite (fun _ => refl s) fun _ => (of_same counted).trans (ite (fun _ => backwardJump) fun _ => countChange)

theorem laneDisable : KeepsPool s (s.laneDisable f) := by
  unfold State.laneDisable
  exact ite (fun _ => (of_same .disableLane).trans endClaim) fun _ => of_same .modLane

/-! ## The teardown (R159) -/

theorem teardown : KeepsPool s s.teardown := by
  have stopped (f : FaderIx) (t : State) : KeepsQueue t (t.stopHere f) := by
    unfold State.stopHere
    exact .ite (fun _ => KeepsQueue.goTo.same (SamePool.holdHere.trans .moveTest)) fun _ => .incase (.of_same .holdHere)
  have fader (f : FaderIx) (t : State) : KeepsQueue t (t.tearFader f) := by
    unfold State.tearFader
    split
    · exact stopped f t
    · exact stopped f t
    · exact .dropClaim
  have lane (f : FaderIx) (t : State) : KeepsQueue t (t.tearLane f) := by
    unfold State.tearLane
    refine .ite (fun _ => (KeepsQueue.of_same .disableLane).trans .dropClaim) fun _ => ?_
    exact .of_same (.otherwise (SamePool.modLane.trans .raise))
  have recalled (l : List Recall) (t : State) : SamePool t (recallsTornDown l t) := by
    induction l generalizing t with
    | nil => exact .recalls
    | cons r l ih => exact SamePool.raise.trans (ih _)
  have calibration (f : FaderIx) (t : State) : KeepsQueue t (t.tearCalibration f) := by
    unfold State.tearCalibration
    split
    · exact (KeepsQueue.of_same .endCalibration).trans .parkHere
    · exact .refl t
  unfold State.teardown
  extract_lets link s1 s2 s3 s4 s5 s6
  have lost : SamePool s s1 := .of_faders rfl rfl rfl
  have faders : KeepsQueue s1 s2 := .each fader
  have lanes : KeepsQueue s2 s3 := .each lane
  have emptied : SamePool s3 s4 := recalled _ _
  have calibrations : KeepsQueue s4 s5 := .each calibration
  have leads : SamePool s5 s6 := .each fun _ _ => .evalLead
  have torn : KeepsQueue s s6 :=
    (((((KeepsQueue.of_same lost).trans faders).trans lanes).same emptied).trans calibrations).same leads
  exact (grant torn).same .raise

end State.KeepsPool

end Sys2Proof.Machine
end

section
namespace Sys2Proof.Machine

/-! # The drive pool through the requests and the events -/

/-! ## The owners' answers -/

/-- An owner's answer keeps the queue exact and the pool settled, whatever the state it is given in. -/
def ActKeepsPool (act : State → Taken) : Prop := ∀ s : State, s.KeepsPool (act s).st

theorem State.KeepsPool.noReview (s : State) (f : FaderIx) : s.KeepsPool (s.noReview f).st := by
  unfold State.noReview
  split
  · exact .refl s
  · exact .refl s
  · exact .refl s

namespace ActKeepsPool
open State State.KeepsPool

variable {s t : State} {data : ReplyData}

theorem taken (h : s.KeepsPool t) : s.KeepsPool (Machine.taken data t).st := h
theorem accepted (h : s.KeepsPool t) : s.KeepsPool (Machine.accepted data t).st := h

/-! ### Fader Control (R30 to R35) -/

theorem direct (f : FaderIx) (target glide : Nat) : ActKeepsPool (takeDirect f target glide) := by
  intro s
  unfold takeDirect
  split
  · exact .refl s
  · exact .refl s
  · exact .refl s
  · split
    · exact .refl s
    · exact accepted (takeClaim.trans settleRecalls)

theorem move (fader target glide : Nat) : ActKeepsPool (moveAct fader target glide) := by
  intro s
  unfold moveAct
  split
  · exact .refl s
  · split
    · exact direct _ _ _ s
    · exact .refl s

theorem null (fader glide : Nat) : ActKeepsPool (nullAct fader glide) := by
  intro s
  unfold nullAct
  split
  · exact .refl s
  · split
    · exact direct _ _ _ s
    · exact .refl s

theorem stop (fader : Nat) : ActKeepsPool (stopAct fader) := by
  intro s
  unfold stopAct
  split
  · exact .refl s
  · split
    · exact .refl s
    · exact .refl s
    · exact .refl s
    · exact taken (endClaim.trans settleRecalls)

theorem teach (fader : Nat) : ActKeepsPool (teachAct fader) := by
  intro s
  unfold teachAct
  split
  · exact .refl s
  · split
    · exact .refl s
    · exact taken (of_same .modConfig)

theorem faderSet (faders : BitVec 16) (o : FaderSetOperand) : ActKeepsPool (faderSetAct faders o) := by
  intro s
  have effects (f : FaderIx) (t : State) : KeepsPool t (faderSetEffects s.config f t) := by
    unfold faderSetEffects
    extract_lets t1
    have touch : KeepsPool t t1 := incase disableTouch
    exact touch.trans (incase (of_same .moveTest))
  unfold faderSetAct
  split
  · exact .refl s
  · exact taken ((of_same (.each fun _ _ => .modConfig)).trans (each effects))

theorem faderRead (fader : Nat) : ActKeepsPool (faderReadAct fader) := by
  intro s
  unfold faderReadAct
  split
  · exact .refl s
  · exact .refl s

/-! ### Faults and calibration (R78, R79, R81, R85, R86) -/

theorem watchSet (faders : BitVec 16) (watch : Nat) : ActKeepsPool (watchSetAct faders watch) := by
  intro s
  unfold watchSetAct
  split
  · exact .refl s
  · exact taken (((of_same (.each fun _ _ => .modConfig)).trans (each fun _ _ => latchWatched)).trans settleRecalls)

theorem faultClear (fader conditions : Nat) : ActKeepsPool (faultClearAct fader conditions) := by
  intro s
  unfold faultClearAct
  split
  · exact .refl s
  · split
    · exact .refl s
    · split
      · exact .refl s
      · exact taken clearFaults

theorem calibrate (faders : BitVec 16) : ActKeepsPool (calibrateAct faders) := by
  intro s
  unfold calibrateAct
  split
  · exact .refl s
  · split
    · exact .refl s
    · exact accepted (each fun _ _ => calibrateOne)

theorem calAccept (fader : Nat) : ActKeepsPool (calAcceptAct fader) := by
  intro s
  unfold calAcceptAct
  split
  · exact .refl s
  · split
    · split
      · exact .refl s
      · exact taken acceptCalibration
    · exact KeepsPool.noReview s _

theorem calReject (fader : Nat) : ActKeepsPool (calRejectAct fader) := by
  intro s
  unfold calRejectAct
  split
  · exact .refl s
  · split
    · exact taken rejectCalibration
    · exact KeepsPool.noReview s _

/-! ### The Drive Pool (R62, R69, R70) -/

theorem budgetSet (budget : Nat) : ActKeepsPool (budgetSetAct budget) := by
  intro s
  unfold budgetSetAct
  split
  · exact grant fun h => h
  · exact .refl s

theorem heatSet (trip resume : Nat) : ActKeepsPool (heatSetAct trip resume) := by
  intro s
  unfold heatSetAct
  split
  · exact taken ((of_same .modSettings).trans heatTests)
  · exact .refl s

theorem driveRead : ActKeepsPool driveReadAct := fun s => .refl s

/-! ### The Group Follower (R91 to R93) -/

theorem groupForm (group master : Nat) (members : BitVec 16) : ActKeepsPool (groupFormAct group master members) := by
  intro s
  unfold groupFormAct
  split
  · split
    · exact .refl s
    · split
      · exact .refl s
      · exact of_same (.of_faders rfl rfl rfl)
  · exact .refl s

theorem groupDissolve (group : Nat) : ActKeepsPool (groupDissolveAct group) := by
  intro s
  have released (g : GroupIx) (f : FaderIx) (t : State) : KeepsPool t (releaseMember g f t) := by
    unfold releaseMember
    refine incase ?_
    extract_lets t1
    have ends : SamePool t t1 := SamePool.clearClaim.trans .holdHere
    exact grant ((KeepsQueue.of_same ends).trans (.incase (KeepsQueue.goTo.same .entryTest)))
  unfold groupDissolveAct
  split
  · exact .refl s
  · split
    · exact .refl s
    · exact taken ((each (released _)).same (.of_faders rfl rfl rfl))

theorem groupRead (group : Nat) : ActKeepsPool (groupReadAct group) := by
  intro s
  unfold groupReadAct
  split
  · exact .refl s
  · exact .refl s

/-! ### The Recall Engine (R102 to R117) -/

theorem pageLoad (page glide : Nat) (l : List EntryOperand) : ActKeepsPool (pageLoadAct page glide l) := by
  intro s
  unfold pageLoadAct
  split
  · split
    · exact .refl s
    · split
      · exact .refl s
      · split
        · exact .refl s
        · exact of_same (.of_faders rfl rfl rfl)
  · exact .refl s

theorem pageRead (page : Nat) : ActKeepsPool (pageReadAct page) := by
  intro s
  unfold pageReadAct
  split
  · exact .refl s
  · exact .refl s

theorem recallTaken (tag page condition count : Nat) : ActKeepsPool (recallAct tag page condition count) := by
  intro s
  unfold recallAct
  split
  · split
    · exact .refl s
    · extract_lets head s1 started
      have queued : SamePool s s1 := .recalls
      exact accepted (((of_same queued).trans (incase startHead)).trans settleRecalls)
  · exact .refl s

theorem fire : ActKeepsPool fireAct := by
  intro s
  unfold fireAct
  split
  · exact .refl s
  · split
    · exact taken (startHead.trans settleRecalls)
    · exact .refl s

theorem withdraw : ActKeepsPool withdrawAct := by
  intro s
  unfold withdrawAct
  split
  · exact .refl s
  · split
    · exact taken (((of_same .recalls).trans startTest).trans settleRecalls)
    · split
      · exact taken (of_same .recalls)
      · exact .refl s
    · exact .refl s

theorem halt : ActKeepsPool haltAct := by
  intro s
  unfold haltAct
  split
  · exact .refl s
  · split
    · exact taken ((KeepsPool.haltEntries _ s).trans settleRecalls)
    · exact .refl s

theorem recallSet (lateness expiry : Nat) : ActKeepsPool (recallSetAct lateness expiry) := by
  intro s
  unfold recallSetAct
  split
  · exact taken (of_same .modSettings)
  · exact .refl s

theorem recallRead : ActKeepsPool recallReadAct := fun s => .refl s

/-! ### The Timeline Counter and the Lane Engine (R124 to R137) -/

theorem timeSet (count : Nat) : ActKeepsPool (timeSetAct count) := by
  intro s
  unfold timeSetAct
  split
  · exact setCount
  · exact .refl s

theorem transport (value : Nat) : ActKeepsPool (transportAct value) := by
  intro s
  have set (run : Bool) : SamePool s (s.setTransport run) := by
    unfold setTransport
    extract_lets s1
    have running : SamePool s s1 := .modTimeline
    exact .ite (fun _ => running.trans (.incase .modTimeline)) fun _ => .modTimeline
  unfold transportAct
  split
  · exact of_same (set _)
  · exact .refl s

theorem timeSource (source rate : Nat) : ActKeepsPool (timeSourceAct source rate) := by
  intro s
  have set (x : Source) (r : FrameRate) : SamePool s (s.setSource x r) := by
    unfold setSource
    extract_lets s1
    have written : SamePool s s1 := .modSettings
    cases x with
    | external => exact written.trans .modTimeline
    | internal => exact written.trans .modTimeline
    | link => exact written.trans .modTimeline
  unfold timeSourceAct
  split
  · exact of_same (set _ _)
  · exact .refl s

theorem lane (f : FaderIx) (chase : Option Nat) : ActKeepsPool (takeLane f chase) := by
  intro s
  have enabled : SamePool s (s.enableLane f chase) := .modLane
  unfold takeLane
  split
  · exact of_same enabled
  · split
    · exact .refl s
    · exact .refl s
    · exact taken (of_same (enabled.trans .modRecord))
    · split
      · exact .refl s
      · extract_lets s1 l
        split
        · exact (of_same enabled).trans takeClaim
        · exact (of_same enabled).trans takeClaim

theorem laneEnable (fader : Nat) (chase : Option Nat) : ActKeepsPool (laneEnableAct fader chase) := by
  intro s
  unfold laneEnableAct
  split
  · exact .refl s
  · split
    · exact lane _ _ s
    · exact .refl s

theorem laneDisable (fader : Nat) : ActKeepsPool (laneDisableAct fader) := by
  intro s
  unfold laneDisableAct
  split
  · exact .refl s
  · exact KeepsPool.laneDisable

theorem points (fader : Nat) (l : List PointOperand) : ActKeepsPool (pointsAct fader l) := by
  intro s
  unfold pointsAct
  split
  · extract_lets lane s1
    have appended : SamePool s s1 := .modLane
    split
    · exact .refl s
    · split
      · exact .refl s
      · split
        · exact .refl s
        · split
          · exact .refl s
          · exact of_same appended
  · exact .refl s

theorem laneRead (fader : Nat) : ActKeepsPool (laneReadAct fader) := by
  intro s
  unfold laneReadAct
  split
  · exact .refl s
  · exact .refl s

end ActKeepsPool
end Sys2Proof.Machine
end

section
namespace Sys2Proof.Machine

/-! ## The meter side leaves the pool alone -/

namespace State.SamePool
variable {s t u : State} {m : MeterIx}

theorem modMeter {g : Meter → Meter} : SamePool s (s.modMeter m g) := of_faders rfl rfl rfl
theorem modMeterConfig {g : MeterSettings → MeterSettings} : SamePool s (s.modMeterConfig m g) := of_faders rfl rfl rfl
theorem setLink {b : Bool} : SamePool s (s.setLink m b) := of_faders rfl rfl rfl
theorem modStream {g : Stream → Stream} : SamePool s (s.modStream g) := of_faders rfl rfl rfl

theorem eachMeter {g : MeterIx → State → State} (h : ∀ m t, SamePool t (g m t)) {l : List MeterIx} :
    SamePool s (s.eachMeter l g) := by
  unfold State.eachMeter
  induction l generalizing s with
  | nil => exact refl s
  | cons m l ih => exact (h m s).trans ih

theorem restartLamp : SamePool s (s.restartLamp m) := by
  unfold State.restartLamp
  exact ite (fun _ => incase (modMeter.trans modMeter)) fun _ => modMeter

theorem linkPair : SamePool s (s.linkPair m) := by
  unfold State.linkPair
  exact otherwise ((setLink.trans modMeter).trans modMeter)

theorem meterSet {o : MeterSetOperand} : SamePool s (s.meterSet o m) := by
  unfold State.meterSet
  extract_lets old s1 s2 s3
  have written : SamePool s s3 :=
    (SamePool.trans (t := s1) modMeterConfig (SamePool.trans (t := s2) (incase modMeter) (incase restartLamp)))
  refine written.trans ?_
  split
  · exact linkPair
  · exact setLink
  · exact refl s3

theorem clearHold : SamePool s (s.clearHold m) := by
  unfold State.clearHold
  extract_lets g
  exact ite (fun _ => modMeter.trans modMeter) fun _ => modMeter

theorem levelInput {e : MeterIx × Nat × Bool} : SamePool s (s.levelInput e) := by
  unfold State.levelInput
  exact incase modMeter

theorem displayFrame : SamePool s s.displayFrame := of_faders rfl rfl rfl

theorem streamSync {bits : List Bool} : SamePool s (s.streamSync bits) := by
  have inputs (t : State) : SamePool t (t.streamInputs bits) := eachMeter fun _ _ => incase modMeter
  have accepts : SamePool s (s.acceptStream bits) := by
    unfold State.acceptStream
    extract_lets lost s1
    have live : SamePool s s1 := modStream
    exact (live.trans (incase raise)).trans (inputs _)
  unfold State.streamSync
  exact (incase accepts).trans modStream

end State.SamePool

namespace ActKeepsPool
open State State.KeepsPool
variable {s t : State}

/-- An answer that leaves the pool alone. -/
theorem taken_same {data : ReplyData} (h : s.SamePool t) : s.KeepsPool (Machine.taken data t).st := of_same h

theorem meterSet (meters : BitVec 32) (o : MeterSetOperand) : ActKeepsPool (meterSetAct meters o) := by
  intro s
  unfold meterSetAct
  split
  · exact .refl s
  · exact taken_same (.eachMeter fun _ _ => .meterSet)

theorem scaleLoad (table : Nat) (thresholds : Vector Nat 40) : ActKeepsPool (scaleLoadAct table thresholds) := by
  intro s
  unfold scaleLoadAct
  split
  · exact .refl s
  · rename_i which _
    split
    · exact .refl s
    · split
      · exact .refl s
      · refine taken_same (.modSettings ?_)
        cases which <;> rfl

theorem levels (l : List LevelOperand) : ActKeepsPool (levelsAct l) := by
  intro s
  have inputs (l : List (MeterIx × Nat × Bool)) (t : State) : SamePool t (l.foldl State.levelInput t) := by
    induction l generalizing t with
    | nil => exact .refl t
    | cons e l ih => exact SamePool.levelInput.trans (ih _)
  unfold levelsAct
  split
  · split
    · exact .refl s
    · exact taken_same (inputs _ _)
  · exact .refl s

theorem holdClear (meters : BitVec 32) : ActKeepsPool (holdClearAct meters) := by
  intro s
  unfold holdClearAct
  split
  · exact .refl s
  · exact taken_same (.eachMeter fun _ _ => .clearHold)

theorem brightness (value : Nat) : ActKeepsPool (brightnessAct value) := by
  intro s
  unfold brightnessAct
  split
  · exact taken_same .modSettings
  · exact .refl s

theorem streamSet (base : Nat) : ActKeepsPool (streamSetAct base) := by
  intro s
  unfold streamSetAct
  split
  · exact taken_same .modSettings
  · exact .refl s

/-! ### The part (R162, R165, R168, R170, R171) -/

theorem linkSet (d : Dest) (timeout rate : Nat) : ActKeepsPool (linkSetAct d timeout rate) := by
  intro s
  unfold linkSetAct
  split
  · split
    · exact taken_same (.of_faders rfl rfl rfl)
    · exact .refl s
  · exact .refl s

/-- R165, R166: the notices collected. -/
theorem assembled (n room : Nat) (s : State) : s.SamePool (assemble n room s).st := by
  have delivered (t : State) (x : Notice) : SamePool t (t.delivered x) := by
    have reported (f : FaderIx) (pos : Nat) : SamePool t (t.reported f pos) := .trans .modRecord .moveTest
    unfold State.delivered
    split
    · exact reported _ _
    · exact reported _ _
    · exact .modTouch
    · exact .incase .modFault
    · exact .refl t
  induction n generalizing room s with
  | zero => exact .refl s
  | succ n ih =>
    unfold assemble
    split
    · exact .refl s
    · rename_i x rest _
      split
      · have removed : SamePool s { s with notices := rest } := .of_faders rfl rfl rfl
        exact (removed.trans (delivered _ x)).trans (ih _ _)
      · exact .refl s

theorem collect (maximum : Nat) : ActKeepsPool (collectAct maximum) := by
  intro s
  unfold collectAct
  split
  · exact taken_same (assembled _ _ s)
  · exact .refl s

theorem identify : ActKeepsPool identifyAct := fun s => .refl s

theorem store : ActKeepsPool storeAct := by
  intro s
  unfold storeAct
  split
  · exact .refl s
  · exact accepted (of_same (.of_faders rfl rfl rfl))

end ActKeepsPool

/-- With every fader PARKED an empty queue is exact (R59). -/
theorem State.queueExact_of_parked {s : State} (hq : s.queue = []) (hs : ∀ f, s.stateOf f = .parked) : s.queueExact := by
  refine ⟨by rw [hq]; exact List.nodup_nil, fun f => ?_⟩
  rw [hq, hs]
  simp [FaderState.queued]

theorem State.stateOf_map (s : State) (g : Fader → Fader) (f : FaderIx) :
    { s with faders := s.faders.map g }.stateOf f = (g (s.fader f)).record.state := by
  simp [State.stateOf, State.fader]

namespace ActKeepsPool
open State State.KeepsPool

/-- RESTART parks every fader and empties the queue (R39, R170). -/
theorem restart : ActKeepsPool restartAct := by
  intro s
  unfold restartAct
  split
  · exact .refl s
  · refine taken ⟨fun _ => queueExact_of_parked rfl fun f => ?_, fun _ => .inl rfl⟩
    exact s.stateOf_map Fader.restart f

theorem refused (status : Status) : ActKeepsPool (refuse status) := fun s => .refl s

/-! ## Frames judged by their code (R157) -/

theorem oneByte {act : Nat → State → Taken} (h : ∀ n, ActKeepsPool (act n)) (payload : List Byte) :
    ActKeepsPool (Machine.oneByte payload act).act := by
  unfold Machine.oneByte
  split
  · exact h _
  · exact refused _

theorem noPayload {j : Judged} (h : ActKeepsPool j.act) (payload : List Byte) :
    ActKeepsPool (Machine.noPayload payload j).act := by
  unfold Machine.noPayload
  split
  · exact h
  · exact refused _

theorem judgeFader (kind : Nat) (payload : List Byte) : ActKeepsPool (Machine.judgeFader kind payload).act := by
  unfold Machine.judgeFader
  split
  · exact move _ _ _
  · exact oneByte stop _
  · exact null _ _
  · exact oneByte teach _
  · exact faderSet _ _
  · exact oneByte faderRead _
  · exact watchSet _ _
  · exact faultClear _ _
  · exact calibrate _
  · exact oneByte calAccept _
  · exact oneByte calReject _
  · exact oneByte budgetSet _
  · exact heatSet _ _
  · exact noPayload driveRead _
  · exact refused _

theorem judgeRecall (kind : Nat) (payload : List Byte) : ActKeepsPool (Machine.judgeRecall kind payload).act := by
  unfold Machine.judgeRecall
  split
  · exact groupForm _ _ _
  · exact oneByte groupDissolve _
  · exact oneByte groupRead _
  · split
    · exact pageLoad _ _ _
    · exact refused _
  · exact oneByte pageRead _
  · exact recallTaken _ _ _ _
  · exact noPayload fire _
  · exact noPayload withdraw _
  · exact noPayload halt _
  · exact recallSet _ _
  · exact noPayload recallRead _
  · exact refused _

theorem judgeTimeline (kind : Nat) (payload : List Byte) : ActKeepsPool (Machine.judgeTimeline kind payload).act := by
  unfold Machine.judgeTimeline
  split
  · exact timeSet _
  · exact transport _
  · exact timeSource _ _
  · exact laneEnable _ _
  · exact oneByte laneDisable _
  · split
    · exact points _ _
    · exact refused _
  · exact oneByte laneRead _
  · exact refused _

theorem judgePart (d : Dest) (kind : Nat) (payload : List Byte) : ActKeepsPool (Machine.judgePart d kind payload).act := by
  unfold Machine.judgePart
  split
  · exact meterSet _ _
  · split
    · exact scaleLoad _ _
    · exact refused _
  · split
    · exact levels _
    · exact refused _
  · exact holdClear _
  · exact brightness _
  · exact oneByte streamSet _
  · exact linkSet _ _ _
  · exact oneByte collect _
  · exact noPayload identify _
  · exact noPayload store _
  · exact noPayload restart _
  · exact refused _

theorem judge (d : Dest) (kind : Nat) (payload : List Byte) : ActKeepsPool (Machine.judge d kind payload).act := by
  unfold Machine.judge
  split
  · exact refused _
  · split
    · exact judgeFader _ _
    · split
      · exact judgeRecall _ _
      · split
        · exact judgeTimeline _ _
        · exact judgePart _ _ _

end ActKeepsPool

/-! ## The Link Port -/

theorem State.SamePool.duplicateHeard {s : State} : s.SamePool s.duplicateHeard := of_faders rfl rfl rfl

namespace State.KeepsPool
variable {s t : State}

/-- A request taken whole, as far as its owner's answer keeps the pool (R157, R158). -/
theorem takeValid {kind : Nat} {capable : Bool} {d : Dest} {act : State → Taken} (h : ActKeepsPool act) :
    KeepsPool s (s.takeValid kind capable d act) := by
  have acted : KeepsPool s (act s.contact).st := (of_same .contact).trans (h _)
  have answered (t : State) {rate : LinkRate} {status : Status} {data : ReplyData} :
      SamePool t (t.answer kind rate status data) := .of_faders rfl rfl rfl
  unfold State.takeValid
  cases d with
  | addressed => exact acted.same (answered _)
  | broadcast => exact (ite (fun _ => acted) fun _ => of_same .contact).same .waitIdle

theorem takeFrame {address kind : Byte} {payload : List Byte} : KeepsPool s (s.takeFrame address kind payload) := by
  have judged (d : Dest) : KeepsPool s (s.takeJudged d kind payload) := takeValid (.judge d _ _)
  unfold State.takeFrame
  exact ite (fun _ => judged _) fun _ => ite (fun _ => judged _) fun _ =>
    ite (fun _ => of_same .duplicateHeard) fun _ => of_same .waitIdle

theorem byteArrives {byte : Byte} {stopLow : Bool} : KeepsPool s (s.byteArrives byte stopLow) := by
  have complete (l : List Byte) (n : Nat) : KeepsPool s (s.frameComplete l n) :=
    ite (fun _ => takeFrame) fun _ => of_same .waitIdle
  have gathered (l : List Byte) : KeepsPool s (s.gathered l) := by
    have kept : KeepsPool s { s with link := { s.link with receiver := .inFrame, bytes := l } } :=
      of_same (.of_faders rfl rfl rfl)
    unfold State.gathered
    split
    · exact ite (fun _ => of_same .waitIdle) fun _ => ite (fun _ => complete _ _) fun _ => kept
    · exact kept
  unfold State.byteArrives
  split
  · exact refl s
  · exact refl s
  · exact ite (fun _ => of_same .waitIdle) fun _ => gathered _
  · exact ite (fun _ => of_same .waitIdle) fun _ => gathered _

end State.KeepsPool

/-! ## Commands -/

/-- A command answers a next state from which the queue is exact and, where the part is READY, the pool settled, if they
were so before it. -/
def State.Upholds (s : State) (r : Result) : Prop :=
  ∃ t, r = .next t ∧ s.KeepsQueue t ∧ ((s.part = .ready → s.poolSettled) → t.part = .ready → t.poolSettled)

namespace State.Upholds
variable {s t : State}

theorem unmoved (s : State) : Upholds s (.next s) := ⟨s, rfl, .refl s, id⟩

/-- What happens while the part is READY. -/
theorem of_ready (ready : s.part = .ready) (h : KeepsPool s t) : Upholds s (.next t) :=
  ⟨t, rfl, h.exact, fun hs _ => h.settled (hs ready)⟩

/-- A command that has its effect while the part is READY only. -/
theorem event {c : Prop} [Decidable c] (ready : c → s.part = .ready) (h : KeepsPool s t) :
    Upholds s (.next (if c then t else s)) := by
  split
  · exact of_ready (ready ‹_›) h
  · exact unmoved s

/-- An event of the Link Port, the meters or the stream. -/
theorem aside {c : Prop} [Decidable c] (ready : c → s.part = .ready) (h : SamePool s t) :
    Upholds s (.next (if c then t else s)) := event ready (.of_same h)

theorem ready_of_hears (h : s.hears = true) : s.part = .ready := by
  simp only [State.hears, Bool.and_eq_true, decide_eq_true_eq] at h
  exact h.1

theorem request {kind : Nat} {capable : Bool} {d : Dest} {act : State → Taken} (h : ActKeepsPool act) :
    Upholds s (takeRequest kind capable d act s) := event ready_of_hears (.takeValid h)

/-- A chip reset and PART_READY: the queue is empty and every fader PARKED (R169). -/
theorem of_parked (hq : t.queue = []) (hs : ∀ f, t.stateOf f = .parked) : Upholds s (.next t) :=
  ⟨t, rfl, fun _ => State.queueExact_of_parked hq hs, fun _ _ => .inl hq⟩

end State.Upholds

end Sys2Proof.Machine
end

section
namespace Sys2Proof.Machine

namespace State.Upholds
variable {s t : State}

/-! ## The commands one by one -/

/-- The straps, the profile and the first samples leave the states and the queue as they are, and the part STARTING
(R169). -/
theorem startUp (s : State) (addr1 addr0 : Strap) (raws : Vector (BitVec 12) 16) :
    s.KeepsQueue (s.startUp addr1 addr0 raws) ∧ (s.startUp addr1 addr0 raws).part = .starting := by
  unfold State.startUp
  extract_lets c link s1
  have loaded : KeepsQueue s s1 := fun h => h
  have sampled : SamePool s1 (s1.each allFaders fun f t => t.firstSampleOf raws f) := .each fun _ _ => .modTrack
  have starting : s1.part = .starting := rfl
  have stays (f : FaderIx) (t : State) (ht : t.part = .starting) : (t.firstSampleOf raws f).part = .starting := ht
  exact ⟨loaded.same sampled, State.each_keeps (P := fun t => t.part = .starting) stays allFaders starting⟩

theorem resetRelease (addr1 addr0 : Strap) (raws : Vector (BitVec 12) 16) :
    Upholds s (execResetRelease addr1 addr0 raws s) := by
  obtain ⟨exact_t, starting⟩ := startUp s addr1 addr0 raws
  unfold execResetRelease
  split
  · exact ⟨_, rfl, exact_t, fun _ hp => by rw [starting] at hp; cases hp⟩
  · exact unmoved s

theorem partReady : Upholds s (execPartReady s) := by
  unfold execPartReady
  split
  · exact of_parked rfl (s.stateOf_map (Fader.ready s.now))
  · exact unmoved s

theorem chipReset : Upholds s (execChipReset s) :=
  of_parked rfl fun f => by simp [State.chipReset, State.stateOf, State.fader, State.reset, Fader.reset, FaderRecord.at]

/-- A servo sample whose row names what it brings about (R44, R51, R82 to R84). -/
theorem sampleWhere {f : FaderIx} {raw : BitVec 12} {active : Bool} {c : Prop} [Decidable c]
    (ready : c → s.part = .ready) :
    Upholds s (.next (if c then (s.sampleMotion f raw).sampleEnds f active false else s)) := event ready .sample

theorem condition {f : FaderIx} {raw : BitVec 12} {active : Bool} {c : Cond} :
    Upholds s (.next (s.conditionSample f raw active c)) := by
  unfold State.conditionSample
  exact event And.left .sample

theorem recallExpiry (f : FaderIx) : Upholds s (execRecallExpiry f s) := by
  unfold execRecallExpiry
  split
  · rename_i at' _ _
    have timed : SamePool s { s with now := max s.now at' } := .of_faders rfl rfl rfl
    exact event id (((KeepsPool.of_same timed).trans .endClaim).trans .settleRecalls)
  · exact unmoved s

theorem storeEnd (differs : Option (BitVec 16)) : Upholds s (execStoreEnd differs s) := by
  have ended (c : Settings) : SamePool s (s.endStore c differs) := by
    unfold State.endStore
    split
    · exact .of_faders rfl rfl rfl
    · exact .of_faders rfl rfl rfl
  unfold execStoreEnd
  split
  · exact aside id (ended _)
  · exact unmoved s

/-- R159: the clock goes to the expiry, and the teardown follows. -/
theorem linkLost : Upholds s (execLinkLost s) := by
  have timed : SamePool s { s with now := max s.now (s.link.supStart + ms s.settings.linkTimeout) } :=
    .of_faders rfl rfl rfl
  exact event And.left ((KeepsPool.of_same timed).trans .teardown)

theorem framePulse : Upholds s (execFramePulse s) := by
  have pulsed : KeepsPool s s.framePulse := by
    unfold State.framePulse
    extract_lets lost s1
    have locked : SamePool s s1 := .modTimeline
    exact (KeepsPool.of_same (locked.trans (.incase .raise))).trans .frameEvent
  exact event And.left pulsed

theorem internalFrameEvent : Upholds s (execInternalFrameEvent s) := by
  unfold execInternalFrameEvent
  refine event And.left ((KeepsPool.of_same ?_).trans .frameEvent)
  exact .of_faders rfl rfl rfl

/-- Every command keeps the queue exact, and the pool settled while the part is READY (R59, R60). -/
theorem exec (i : Instr) (s : State) : Upholds s (Machine.exec i s) :=
  match i with
  | .move _ _ _ _ => request (.move _ _ _)
  | .null _ _ _ => request (.null _ _)
  | .stop _ _ => request (.stop _)
  | .teach _ _ => request (.teach _)
  | .faderSet _ _ _ => request (.faderSet _ _)
  | .faderRead _ _ => request (.faderRead _)
  | .watchSet _ _ _ => request (.watchSet _ _)
  | .faultClear _ _ _ => request (.faultClear _ _)
  | .calibrate _ _ => request (.calibrate _)
  | .calAccept _ _ => request (.calAccept _)
  | .calReject _ _ => request (.calReject _)
  | .budgetSet _ _ => request (.budgetSet _)
  | .heatSet _ _ _ => request (.heatSet _ _)
  | .driveRead _ => request .driveRead
  | .groupForm _ _ _ _ => request (.groupForm _ _ _)
  | .groupDissolve _ _ => request (.groupDissolve _)
  | .groupRead _ _ => request (.groupRead _)
  | .pageLoad _ _ _ _ => request (.pageLoad _ _ _)
  | .pageRead _ _ => request (.pageRead _)
  | .recall _ _ _ _ _ => request (.recallTaken _ _ _ _)
  | .fire _ => request .fire
  | .withdraw _ => request .withdraw
  | .halt _ => request .halt
  | .recallSet _ _ _ => request (.recallSet _ _)
  | .recallRead _ => request .recallRead
  | .timeSet _ _ => request (.timeSet _)
  | .transport _ _ => request (.transport _)
  | .timeSource _ _ _ => request (.timeSource _ _)
  | .laneEnable _ _ _ => request (.laneEnable _ _)
  | .laneDisable _ _ => request (.laneDisable _)
  | .points _ _ _ => request (.points _ _)
  | .laneRead _ _ => request (.laneRead _)
  | .meterSet _ _ _ => request (.meterSet _ _)
  | .scaleLoad _ _ _ => request (.scaleLoad _ _)
  | .levels _ _ => request (.levels _)
  | .holdClear _ _ => request (.holdClear _)
  | .brightness _ _ => request (.brightness _)
  | .streamSet _ _ => request (.streamSet _)
  | .linkSet _ _ _ => request (.linkSet _ _ _)
  | .collect _ _ => request (.collect _)
  | .identify _ => request .identify
  | .store _ => request .store
  | .restart _ => request .restart
  | .unknownKind _ _ _ => event ready_of_hears (.takeValid (.judge _ _ _))
  | .badCheckFrame => aside ready_of_hears .waitIdle
  | .foreignFrame _ _ _ => event ready_of_hears .takeFrame
  | .duplicateAddressReply => aside ready_of_hears .duplicateHeard
  | .frameOpeningIdle => aside And.left (.of_faders rfl rfl rfl)
  | .frameGapAbandon => aside And.left .waitIdle
  | .replyStart => aside And.left (.of_faders rfl rfl rfl)
  | .replyEnd => aside And.left (.of_faders rfl rfl rfl)
  | .linkLost => linkLost
  | .chipReset => chipReset
  | .resetRelease _ _ _ => resetRelease _ _ _
  | .partReady => partReady
  | .servoSample _ _ _ => event id .sample
  | .rampEnd _ _ _ => sampleWhere And.left
  | .arrival _ _ _ => sampleWhere And.left
  | .touchSample _ _ => event id .touchSampleAt
  | .touchOn _ => event And.left .touchSampleAt
  | .touchOff _ => event And.left .touchSampleAt
  | .stallCondition _ _ _ => condition
  | .trackCondition _ _ _ => condition
  | .overcurrentCondition _ _ _ => condition
  | .heatWindowEnd _ => event And.left .windowEnd
  | .calDownStop _ _ _ => sampleWhere And.left
  | .calUpStop _ _ _ => sampleWhere And.left
  | .calPhaseTimeout _ _ _ => sampleWhere And.left
  | .recallExpiry f => recallExpiry f
  | .framePulse => framePulse
  | .internalFrameEvent => internalFrameEvent
  | .syncLoss => aside And.left (.of_faders rfl rfl rfl)
  | .displayFrame => aside id .displayFrame
  | .holdExpiry _ => aside And.left .displayFrame
  | .lampExpiry _ => aside And.left .displayFrame
  | .scanFrameStart => aside id (.of_faders rfl rfl rfl)
  | .levelStreamFrame _ => aside id .streamSync
  | .streamLoss => aside And.left (.of_faders rfl rfl rfl)
  | .storeEnd differs => storeEnd differs
  | .byteArrival _ _ => event id .byteArrives

/-- So does every step. -/
theorem step (s : State) : Upholds s (Machine.step s) := by
  unfold Machine.step
  split
  · exact ⟨s.tick, rfl, .of_same (.of_faders rfl rfl rfl), fun hs => hs⟩
  · rename_i c rest _
    exact exec c { s with pending := rest }

/-- An invariant that follows from a step's `Upholds` is kept. -/
theorem kept {P : State → Prop} (h : ∀ s t : State, s.KeepsQueue t →
    ((s.part = .ready → s.poolSettled) → t.part = .ready → t.poolSettled) → P s → P t) : Kept P := by
  intro s t hs ht
  obtain ⟨u, hu, exact_u, settled_u⟩ := Upholds.step s
  obtain rfl : u = t := Host.Outcome.next.inj (hu.symm.trans ht)
  exact h s u exact_u settled_u hs

end State.Upholds

/-- Settles O52: every operation keeps the queue exact, and whatever frees a slot or takes a place ends with the grant
rule. -/
theorem admissionQueueStaysExactAndServed : Obligations.AdmissionQueueStaysExactAndServed :=
  ⟨State.Upholds.kept fun _ _ exact_t _ hs => exact_t hs, State.Upholds.kept fun _ _ _ settled hs => settled hs⟩

end Sys2Proof.Machine
end

section
namespace Sys2Proof.Machine

/-! # The grant rule, slot by slot (R60) -/

/-- A fader that waits holds no slot; granted one, it is in a driven state. -/
theorem FaderState.driven_granted {st : FaderState} (h : st.queued = true) :
    st.driven = false ∧ st.granted.driven = true := by
  rcases queued_iff.1 h with rfl | rfl <;> exact ⟨rfl, rfl⟩

/-- A slot granted is a holder more. -/
theorem State.holders_grantTo {s : State} {f : FaderIx} (h : (s.stateOf f).queued = true) :
    (s.grantTo f).holders.length = s.holders.length + 1 := by
  obtain ⟨undriven, driven⟩ := FaderState.driven_granted h
  have fresh : f ∉ s.holders := fun hf => by
    rw [State.mem_holders, undriven] at hf
    cases hf
  have perm : (s.grantTo f).holders.Perm (f :: s.holders) := by
    refine (List.perm_ext_iff_of_nodup (State.holders_nodup _) (s.holders_nodup.cons fresh)).2 fun x => ?_
    by_cases hx : x = f
    · subst hx
      simp [State.mem_holders, State.grantTo_stateOf, driven]
    · simp [State.mem_holders, State.grantTo_stateOf_ne _ hx, hx]
  rw [perm.length_eq, List.length_cons]

/-- CAL-DOWN begins at -35 % (R82). -/
theorem State.grantTo_drive (s : State) {f : FaderIx} (h : s.stateOf f = .calibrating .calWait) :
    ((s.grantTo f).fader f).motion.drive = -35 := by
  have h' : (s.leaveQueue f).stateOf f = .calibrating .calWait := h
  simp only [State.grantTo, h', State.setCal_fader, State.modFault_fader,
    State.enterCalPhase_fader _ f (p := .calDown) rfl]
  rfl

/-- From `s` to `t` the first `k` faders of the queue have been granted a slot. -/
structure State.Granted (k : Nat) (s t : State) : Prop where
  queue : t.queue = s.queue.drop k
  head : ∀ f ∈ s.queue.take k, (s.stateOf f = .waiting → t.stateOf f = .travel) ∧
    (s.stateOf f ≠ .waiting → t.stateOf f = .calibrating .calDown ∧ (t.fader f).motion.drive = -35)
  others : ∀ f, f ∉ s.queue.take k → t.fader f = s.fader f
  holders : t.holders.length = s.holders.length + k

namespace State.Granted
variable {s t : State} {f : FaderIx} {rest : List FaderIx} {k : Nat}

theorem zero (s : State) : Granted 0 s s :=
  ⟨rfl, fun f hf => by simp at hf, fun _ _ => rfl, rfl⟩

/-- A slot granted to the head of an exact queue, and slots granted to those that have moved up. -/
theorem cons (hs : s.queueExact) (hq : s.queue = f :: rest) (hr : (s.grantTo f).queue = rest)
    (h : Granted k (s.grantTo f) t) : Granted (k + 1) s t := by
  obtain ⟨queue, head, others, holders⟩ := h
  obtain ⟨nodup, mem⟩ := hs
  have waits : (s.stateOf f).queued = true := (mem f).1 (hq ▸ List.mem_cons_self)
  rw [hr] at queue head others
  have gone : f ∉ rest.take k := fun hf => (List.nodup_cons.1 (hq ▸ nodup)).1 (List.mem_of_mem_take hf)
  refine ⟨by rw [queue, hq, List.drop_succ_cons], fun x hx => ?_, fun x hx => ?_, ?_⟩
  · rw [hq, List.take_succ_cons, List.mem_cons] at hx
    by_cases hxf : x = f
    · subst hxf
      have granted : t.stateOf x = (s.stateOf x).granted := by
        rw [State.stateOf, others x gone, ← State.stateOf, State.grantTo_stateOf]
      rw [granted, others x gone]
      refine ⟨fun e => by rw [e]; rfl, fun ne => ?_⟩
      have calWait := (FaderState.queued_iff.1 waits).resolve_left ne
      exact ⟨by rw [calWait]; rfl, s.grantTo_drive calWait⟩
    · have moved := head x (hx.resolve_left hxf)
      rwa [State.grantTo_stateOf_ne _ hxf] at moved
  · rw [hq, List.take_succ_cons, List.mem_cons, not_or] at hx
    rw [others x hx.2, State.grantTo_fader_ne _ hx.1]
  · rw [holders, State.holders_grantTo waits]
    omega

end State.Granted

/-- Along an exact queue slots go to its head, one fader after another, until the budget is reached or nobody waits. -/
theorem granted_grantAlong (l : List FaderIx) (s : State) (hs : s.queueExact) (hl : s.queue = l) :
    ∃ k ≤ l.length, State.Granted k s (grantAlong l s) ∧
      (k < l.length → s.settings.budget ≤ (grantAlong l s).holders.length) ∧
      (0 < k → (grantAlong l s).holders.length ≤ s.settings.budget) := by
  induction l generalizing s with
  | nil => exact ⟨0, le_rfl, .zero s, nofun, nofun⟩
  | cons f rest ih =>
    unfold grantAlong
    split
    · rename_i free
      have moved_up : (s.grantTo f).queue = rest := by
        have nodup := hs.1
        rw [hl] at nodup
        rw [State.grantTo_queue, hl, List.filter_cons_of_neg (by simp), List.filter_eq_self]
        intro x hx
        exact decide_eq_true (by rintro rfl; exact (List.nodup_cons.1 nodup).1 hx)
      have waits : (s.stateOf f).queued = true := (hs.2 f).1 (hl ▸ List.mem_cons_self)
      have settings : (s.grantTo f).settings = s.settings := State.settings_of_base (s.base_grantTo f)
      obtain ⟨k, le, granted, full, within⟩ := ih (s.grantTo f) (State.KeepsQueue.grantTo hs) moved_up
      rw [settings] at full within
      refine ⟨k + 1, Nat.succ_le_succ le, granted.cons hs hl moved_up,
        fun h => full (Nat.lt_of_succ_lt_succ h), fun _ => ?_⟩
      rcases Nat.eq_zero_or_pos k with rfl | pos
      · rw [granted.holders, State.holders_grantTo waits]
        exact free
      · exact within pos
    · exact ⟨0, Nat.zero_le _, .zero s, fun _ => Nat.not_lt.1 ‹_›, nofun⟩

/-! ## What the grant rule makes of a state -/

theorem FaderState.granted_granted (st : FaderState) : st.granted.granted = st.granted :=
  granted_of_not_queued st.queued_granted

theorem FaderState.granted_eq_rest {st : FaderState} : st.granted = .rest ↔ st = .rest := by
  cases h : st.queued
  · rw [granted_of_not_queued h]
  · rcases queued_iff.1 h with rfl | rfl <;> simp [granted]

theorem FaderState.granted_trips {st : FaderState} (h : st.trips = true) : st.granted.trips = true := by
  cases hq : st.queued
  · rwa [granted_of_not_queued hq]
  · rcases queued_iff.1 hq with rfl | rfl <;> rfl

theorem grantAlong_stateOf (l : List FaderIx) (s : State) (f : FaderIx) :
    (grantAlong l s).stateOf f = s.stateOf f ∨ (grantAlong l s).stateOf f = (s.stateOf f).granted := by
  induction l generalizing s with
  | nil => exact .inl rfl
  | cons x l ih =>
    unfold grantAlong
    split
    · have moved := ih (s.grantTo x)
      by_cases hx : f = x
      · subst hx
        rw [State.grantTo_stateOf, FaderState.granted_granted, or_self] at moved
        exact .inr moved
      · rwa [State.grantTo_stateOf_ne _ hx] at moved
    · exact .inl rfl

/-- The grant rule leaves a fader's state, or grants it a slot. -/
theorem State.grant_stateOf (s : State) (f : FaderIx) :
    s.grant.stateOf f = s.stateOf f ∨ s.grant.stateOf f = (s.stateOf f).granted := grantAlong_stateOf _ s f

/-! # Heat trips and resumes (R65, R66): which fader rests -/

/-! ## A trip spares the other faders -/

namespace State.Spares
variable {f x : FaderIx} {s t : State}

theorem entryTest (s : State) (q : Bool) (h : f ≠ x) : Spares f s (s.entryTest x q) := by
  have moves : Spares f s (s.raise (.move x)) := raise s fun k e => h (NoticeKey.fader.inj e).1.symm
  unfold State.entryTest State.moveTest
  split
  · exact refl f s
  · split
    · exact moves
    · exact refl f s

theorem endCalibration (s : State) (o : CalOutcome) (n : Option Int) (h : f ≠ x) :
    Spares f s (s.endCalibration x o n) := by
  unfold State.endCalibration
  split
  · exact refl f s
  · rename_i p _
    have told (low high : Option Nat) : Spares f s (s.raise (.cal x o p low high n)) :=
      raise s fun k e => h (NoticeKey.fader.inj e).1.symm
    exact ((told _ _).trans (modFader _ _ h)).trans (modRecord _ _ h)

theorem tripTest (s : State) (q : Bool) (h : f ≠ x) : Spares f s (s.tripTest x q) := by
  have rests (t : State) : Spares f t (t.raise (.rest x true .heat)) :=
    raise t fun k e => h (NoticeKey.fader.inj e).1.symm
  unfold State.tripTest State.trip
  split
  · split
    · split
      · exact ((goTo s _ h).trans (entryTest _ q h)).trans (rests _)
      · have ends : Spares f s ((s.endCalibration x .timeout none).goTo x .rest) :=
          (endCalibration s _ _ h).trans (goTo _ _ h)
        exact (((ends.trans (clearClaim _ h)).trans (modRecord _ _ h)).trans (entryTest _ q h)).trans (rests _)
    · exact refl f s
  · exact refl f s

end State.Spares

/-! ## A fader that cannot trip -/

/-- No trip test can find a trip of `f`: it rests, or its heat lies below the trip value (R65). -/
def State.Tripless (f : FaderIx) (s : State) : Prop := s.stateOf f = .rest ∨ s.heatOf f < s.settings.heatTrip

/-- The trip test finds nothing of such a fader. -/
theorem State.Tripless.tripTest_eq {f : FaderIx} {s : State} (h : s.Tripless f) (q : Bool) : s.tripTest f q = s := by
  unfold State.tripTest
  rcases h with hs | hh
  · simp [State.trip, hs, FaderState.trips]
  · rw [if_neg (Nat.not_le.2 hh)]

theorem State.heatOf_of_base {s t : State} (h : t.base = s.base) (f : FaderIx) : t.heatOf f = s.heatOf f :=
  congrArg Heat.heat (State.heat_of_base h f)

/-- A cool fader stays so where heat and settings stand. -/
theorem State.Tripless.of_base {f : FaderIx} {s t : State} (hb : t.base = s.base)
    (h : s.heatOf f < s.settings.heatTrip) : t.Tripless f := by
  refine .inr ?_
  rwa [State.heatOf_of_base hb, State.settings_of_base hb]

/-- From `s` to `t`, as long as fader `f` cannot trip, it rests in `t` exactly when it rests in `s`, and its pending REST
notice stands. -/
structure State.KeepsRest (f : FaderIx) (s t : State) : Prop where
  base : t.base = s.base
  rest : s.Tripless f → (t.stateOf f = .rest ↔ s.stateOf f = .rest)
  notices : s.Tripless f → ∀ n ∈ s.notices, n.key = .fader f .rest → n ∈ t.notices

namespace State.KeepsRest
variable {f x : FaderIx} {s t u : State}

theorem tripless (h : KeepsRest f s t) (hs : s.Tripless f) : t.Tripless f := by
  by_cases hr : s.stateOf f = .rest
  · exact .inl ((h.rest hs).2 hr)
  · exact .of_base h.base (hs.resolve_left hr)

theorem refl (f : FaderIx) (s : State) : KeepsRest f s s := ⟨rfl, fun _ => .rfl, fun _ _ h _ => h⟩

theorem trans (h : KeepsRest f s t) (k : KeepsRest f t u) : KeepsRest f s u where
  base := k.base.trans h.base
  rest hs := (k.rest (h.tripless hs)).trans (h.rest hs)
  notices hs n hn hk := k.notices (h.tripless hs) n (h.notices hs n hn hk) hk

theorem ite {c : Prop} [Decidable c] (ht : c → KeepsRest f s t) (hu : ¬c → KeepsRest f s u) :
    KeepsRest f s (if c then t else u) := by
  split
  · exact ht ‹_›
  · exact hu ‹_›

theorem of_spares (hb : t.base = s.base) (h : Spares f s t) : KeepsRest f s t :=
  ⟨hb, fun _ => by rw [State.stateOf, h.fader, State.stateOf], fun _ n hn hk => h.notices n hn _ hk⟩

/-- No state changes, and no notice. -/
theorem of_same (hb : t.base = s.base) (h : SamePool s t) (hn : t.notices = s.notices) : KeepsRest f s t :=
  ⟨hb, fun _ => by rw [h.states], fun _ _ h _ => hn ▸ h⟩

theorem raise {n : Notice} (h : n.key ≠ .fader f .rest := by nofun) : KeepsRest f s (s.raise n) :=
  ⟨rfl, fun _ => .rfl, fun _ _ hm hk => mem_raiseInto_of_ne hm fun e => h (e.symm.trans hk)⟩

theorem modRecord {g : FaderRecord → FaderRecord} (h : ∀ r, (g r).state = r.state := by intro r; rfl) :
    KeepsRest f s (s.modRecord x g) := of_same (by simp) (.modRecord h) rfl

theorem clearClaim : KeepsRest f s (s.clearClaim x) := modRecord

theorem layRamp {n : Nat} : KeepsRest f s (s.layRamp x n) := of_same (by simp) .layRamp rfl

theorem claimEnded {c : Claim} : KeepsRest f s (s.claimEnded x c) := of_same (by simp) .claimEnded (by simp)

theorem writeOutcome {tag i : Nat} {o : Outcome} : KeepsRest f s (s.writeOutcome tag i o) :=
  of_same (by simp) .writeOutcome (by simp)

theorem entryTest {q : Bool} : KeepsRest f s (s.entryTest x q) :=
  ite (fun _ => refl f s) fun _ => ite (fun _ => raise) fun _ => refl f s

theorem reportEnd {o : Outcome} : KeepsRest f s (s.reportEnd x o) := by
  unfold State.reportEnd
  split
  · exact refl f s
  · exact raise
  · exact writeOutcome
  · exact refl f s
  · exact ite (fun _ => raise) fun _ => refl f s

theorem disableLane {r : LaneReason} : KeepsRest f s (s.disableLane x (some r)) := by
  have emptied {g : Lane → Lane} : KeepsRest f s (s.modLane x g) := of_same (by simp) .modLane rfl
  unfold State.disableLane
  exact ite (fun _ => emptied.trans raise) fun _ => refl f s

theorem evalLead : KeepsRest f s (s.evalLead x) := by
  have setGroup (t : State) (g : GroupIx) (r : Option Group) (h : KeepsRest f s t) : KeepsRest f s (t.setGroup g r) :=
    h.trans (of_same rfl (.of_faders rfl rfl rfl) rfl)
  have member (t : State) (g : GroupIx) (m : FaderIx) (h : KeepsRest f s t) : KeepsRest f s (t.memberLeadEnd g m) := by
    unfold State.memberLeadEnd
    exact h.trans (ite (fun _ => ((reportEnd.trans clearClaim).trans modRecord).trans claimEnded) fun _ => refl f t)
  exact State.evalLead_keeps (P := KeepsRest f s) x (refl f s) setGroup member

theorem grant : KeepsRest f s s.grant where
  base := s.base_grant
  rest _ := by
    rcases s.grant_stateOf f with e | e
    · rw [e]
    · rw [e, FaderState.granted_eq_rest]
  notices _ n hn _ := by rwa [State.grant_notices]

/-- A transition between states other than REST. -/
theorem goTo {st : FaderState} (h : f = x → st ≠ .rest ∧ s.stateOf x ≠ .rest) : KeepsRest f s (s.goTo x st) := by
  by_cases hx : f = x
  · obtain ⟨entered, left⟩ := h hx
    subst hx
    exact ⟨by simp, fun _ => by simp [State.goTo_stateOf, entered, left], fun _ n hn _ => by rwa [State.goTo_notices]⟩
  · exact of_spares (by simp) (.goTo s st hx)

theorem tripTest {q : Bool} : KeepsRest f s (s.tripTest x q) := by
  by_cases hx : f = x
  · subst hx
    have eq (h : s.Tripless f) : s.tripTest f q = s := h.tripTest_eq q
    exact ⟨by simp, fun h => by rw [eq h], fun h n hn _ => by rwa [eq h]⟩
  · exact of_spares (by simp) (.tripTest s q hx)

theorem enterWaiting {q : Bool} (h : f = x → s.stateOf x ≠ .rest) : KeepsRest f s (s.enterWaiting x q) :=
  (((goTo fun e => ⟨by nofun, h e⟩).trans entryTest).trans tripTest).trans grant

theorem resolveArrival : KeepsRest f s (s.resolveArrival x) := by
  unfold State.resolveArrival
  extract_lets s1
  have unplanned : KeepsRest f s s1 := modRecord
  refine unplanned.trans ?_
  split
  · exact refl f s1
  · exact (reportEnd.trans clearClaim).trans claimEnded
  · exact (writeOutcome.trans clearClaim).trans claimEnded
  · exact refl f s1
  · exact ite (fun _ => refl f s1) fun _ => (reportEnd.trans clearClaim).trans claimEnded

theorem arriveAtOnce {p : Nat} {q : Bool} : KeepsRest f s (s.arriveAtOnce x p q) := by
  unfold State.arriveAtOnce
  extract_lets enters s1 s2 quiet s3
  have aimed : KeepsRest f s s1 := modRecord
  have parks : KeepsRest f s1 s2 := ite (fun moves => goTo fun _ => ⟨by nofun, fun e => by
    have : s.stateOf x = .rest := by rw [← e]; simp [s1, State.stateOf]
    simp [enters, this, FaderState.moving] at moves⟩) fun _ => refl f s1
  have resolved : KeepsRest f s2 s3 := resolveArrival
  exact (((aimed.trans parks).trans resolved).trans (ite (fun _ => entryTest) fun _ => refl f s3)).trans grant

theorem seek {p : Nat} {q : Bool} : KeepsRest f s (s.seek x p q) := by
  unfold State.seek
  extract_lets s1
  have aimed : KeepsRest f s s1 := modRecord
  refine aimed.trans ?_
  split
  · rename_i h
    exact enterWaiting fun _ => by rw [h]; nofun
  · exact layRamp
  · rename_i h
    exact (goTo fun _ => ⟨by nofun, by rw [h]; nofun⟩).trans layRamp
  · exact refl f s1

theorem takeClaim {c : Claim} {p : Nat} {planned deadline expiry : Option Time} :
    KeepsRest f s (s.takeClaim x c p planned deadline expiry) := by
  unfold State.takeClaim
  extract_lets old s1 s2 s3 quiet s4 s5
  have ends : KeepsRest f s s1 := ite (fun _ => disableLane) fun _ => reportEnd
  have holds : KeepsRest f s1 s2 := ite (fun _ => refl f s1) fun _ => modRecord
  have claims : KeepsRest f s2 s3 := modRecord
  have moves : KeepsRest f s3 s4 := ite (fun _ => arriveAtOnce) fun _ => seek
  have told : KeepsRest f s4 s5 := ite (fun _ => refl f s4) fun _ => claimEnded
  exact ((((ends.trans holds).trans claims).trans moves).trans told).trans evalLead

theorem handEntries (tag glide : Nat) (run : RecallRun) (l : List (Entry × Nat)) (s : State) :
    KeepsRest f s (Machine.handEntries tag glide run l s) := by
  have handed (t : State) (e : Entry) (i : Nat) : KeepsRest f t (t.handEntry tag glide run e i) := by
    unfold State.handEntry
    split
    · exact writeOutcome
    · exact writeOutcome
    · exact writeOutcome
    · exact takeClaim
  induction l generalizing s with
  | nil => exact refl f s
  | cons x l ih => exact (handed s x.1 x.2).trans (ih _)

/-- The recall queue written. -/
theorem recalls {l : List Recall} : KeepsRest f s { s with recalls := l } := of_same rfl (.of_faders rfl rfl rfl) rfl

theorem startTest {c : TestCause} : KeepsRest f s (s.startTest c) := by
  unfold State.startTest State.startHead
  refine ite (fun _ => ?_) fun _ => refl f s
  split
  · exact refl f s
  · exact recalls.trans (handEntries _ _ _ _ _)

theorem settleAlong (n : Nat) (s : State) : KeepsRest f s (Machine.settleAlong n s) := by
  induction n generalizing s with
  | zero => exact refl f s
  | succ n ih =>
    unfold Machine.settleAlong
    split
    · exact refl f s
    · split
      · exact refl f s
      · exact ite (fun _ => ((recalls.trans raise).trans startTest).trans (ih _)) fun _ => refl f s

/-- The completion of recalls neither wakes a resting fader nor puts a cool one to rest (R19, R65, R108). -/
theorem settleRecalls : KeepsRest f s s.settleRecalls := settleAlong _ s

theorem tripEvent : KeepsRest f s (s.tripEvent x) := (tripTest.trans evalLead).trans grant

/-- The resume of another fader. -/
theorem resume (h : f ≠ x) : KeepsRest f s (s.resume x) := by
  unfold State.resume
  extract_lets quiet s1 s2
  have parks : KeepsRest f s s1 := (goTo fun e => absurd e h).trans modRecord
  have leaves : KeepsRest f s s2 := ite (fun _ => enterWaiting fun e => absurd e h) fun _ =>
    (parks.trans resolveArrival).trans entryTest
  have told : KeepsRest f s2 (s2.raise (.rest x false .cooled)) := raise fun e => h (NoticeKey.fader.inj e).1.symm
  exact ((leaves.trans told).trans evalLead).trans grant

theorem resumeTest (h : s.resumes f = false) : KeepsRest f s (s.resumeTest x) := by
  unfold State.resumeTest
  exact ite (fun hx => resume (by rintro rfl; rw [h] at hx; cases hx)) fun _ => refl f s

end State.KeepsRest

end Sys2Proof.Machine
end

section
namespace Sys2Proof.Machine

/-! ## A trip and a resume at the fader itself -/

section
variable {s : State} {f : FaderIx}

/-- A trip found: the fader rests, with its REST notice (R65). -/
theorem State.tripTest_rests (q : Bool) (ht : (s.stateOf f).trips = true) (hh : s.settings.heatTrip ≤ s.heatOf f) :
    (s.tripTest f q).stateOf f = .rest ∧ Notice.rest f true .heat ∈ (s.tripTest f q).notices := by
  rw [State.tripTest, if_pos hh, State.trip, if_pos ht]
  split
  · exact ⟨by simp [State.stateOf, State.goTo_fader], mem_raiseInto _ _ nofun⟩
  · exact ⟨by simp [State.stateOf, State.goTo_fader], mem_raiseInto _ _ nofun⟩

theorem State.tripEvent_rests (ht : (s.stateOf f).trips = true) (hh : s.settings.heatTrip ≤ s.heatOf f) :
    (s.tripEvent f).stateOf f = .rest ∧ Notice.rest f true .heat ∈ (s.tripEvent f).notices := by
  obtain ⟨rests, told⟩ := State.tripTest_rests false ht hh
  have after : State.KeepsRest f (s.tripTest f false) (s.tripEvent f) := .trans .evalLead .grant
  exact ⟨(after.rest (.inl rests)).2 rests, after.notices (.inl rests) _ told rfl⟩

/-- The trip of another fader may bring a slot, and leaves a fader where it can trip. -/
theorem State.tripEvent_trips {x : FaderIx} (hx : f ≠ x) (ht : (s.stateOf f).trips = true) :
    ((s.tripEvent x).stateOf f).trips = true := by
  have same : ((s.tripTest x false).evalLead x).stateOf f = s.stateOf f := by
    rw [State.SamePool.evalLead.states, State.stateOf, (Spares.tripTest s false hx).fader, State.stateOf]
  rcases State.grant_stateOf ((s.tripTest x false).evalLead x) f with e | e
  · rw [State.tripEvent, e, same]
    exact ht
  · rw [State.tripEvent, e, same]
    exact FaderState.granted_trips ht

/-- A cool fader resumes: it leaves REST, with its REST notice (R66). -/
theorem State.resume_leaves (hh : s.heatOf f < s.settings.heatTrip) :
    (s.resume f).stateOf f ≠ .rest ∧ Notice.rest f false .cooled ∈ (s.resume f).notices := by
  have cool {t : State} (hb : t.base = s.base) : t.Tripless f := .of_base hb hh
  unfold State.resume
  extract_lets quiet s1 s2
  have leaves : s2.base = s.base ∧ s2.stateOf f ≠ .rest := by
    unfold s2
    split
    · have waits : ((s.goTo f .waiting).entryTest f false).stateOf f = .waiting := by
        rw [State.SamePool.entryTest.states, State.goTo_stateOf]
      have slot : State.KeepsRest f ((s.goTo f .waiting).entryTest f false) (s.enterWaiting f false) :=
        .trans .tripTest .grant
      exact ⟨by simp, fun e => by rw [slot.rest (cool (by simp)), waits] at e; cases e⟩
    · have parked : SamePool (s.goTo f .parked) ((s1.resolveArrival f).entryTest f quiet) :=
        (SamePool.trans .modRecord .resolveArrival).trans .entryTest
      exact ⟨by simp [s1], fun e => by rw [parked.states, State.goTo_stateOf] at e; cases e⟩
  obtain ⟨base, awake⟩ := leaves
  have told : Notice.rest f false .cooled ∈ (s2.raise (.rest f false .cooled)).notices := mem_raiseInto _ _ nofun
  have after : State.KeepsRest f (s2.raise (.rest f false .cooled))
      (((s2.raise (.rest f false .cooled)).evalLead f).grant) := .trans .evalLead .grant
  exact ⟨fun e => awake ((after.rest (cool base)).1 e), after.notices (cool base) _ told rfl⟩

end

/-! ## The heat window's end (R64 to R66) -/

theorem exec_heatWindowEnd {s : State} {f : FaderIx} (ready : s.part = .ready) (full : 20 ≤ (s.fader f).heat.samples) :
    exec (.heatWindowEnd f) s = .next (s.windowEnd f) := by
  change Host.Outcome.next (if _ then s.windowEnd f else s) = _
  rw [if_pos ⟨ready, full⟩]

section
variable {s : State} {f : FaderIx}

/-- A window's end as far as the trip test (R64, R65). -/
def State.windowTripped (s : State) (f : FaderIx) : State := (s.modHeat f Heat.closeWindow).tripEvent f

theorem State.windowEnd_eq (s : State) (f : FaderIx) :
    s.windowEnd f = ((s.windowTripped f).resumeTest f).settleRecalls := rfl

theorem State.base_windowTripped (s : State) (f : FaderIx) :
    (s.windowTripped f).base = (s.modHeat f Heat.closeWindow).base := State.base_tripEvent _ f

theorem State.windowTripped_settings (s : State) (f : FaderIx) : (s.windowTripped f).settings = s.settings :=
  (State.settings_of_base (s.base_windowTripped f) :)

theorem State.closeWindow_heatOf (s : State) (f : FaderIx) :
    (s.modHeat f Heat.closeWindow).heatOf f = (s.fader f).heat.after := by
  rw [State.heatOf, State.modHeat_fader]
  rfl

theorem State.windowTripped_heatOf (s : State) (f : FaderIx) : (s.windowTripped f).heatOf f = (s.fader f).heat.after :=
  (State.heatOf_of_base (s.base_windowTripped f) f).trans (s.closeWindow_heatOf f)

/-- A window's end that finds a trip. -/
theorem State.windowEnd_trips (ht : (s.stateOf f).trips = true) (hot : s.settings.heatTrip ≤ (s.fader f).heat.after)
    (warm : s.settings.heatResume < (s.fader f).heat.after) :
    (s.windowEnd f).stateOf f = .rest ∧ Notice.rest f true .heat ∈ (s.windowEnd f).notices := by
  have tripped : (s.windowTripped f).stateOf f = .rest ∧ Notice.rest f true .heat ∈ (s.windowTripped f).notices :=
    State.tripEvent_rests (by rwa [State.SamePool.modHeat.states]) (hot.trans_eq (s.closeWindow_heatOf f).symm)
  obtain ⟨rests, told⟩ := tripped
  have stays : (s.windowTripped f).resumes f = false := by
    rw [State.resumes, s.windowTripped_heatOf, s.windowTripped_settings]
    simpa using fun _ => warm
  have after : State.KeepsRest f (s.windowTripped f) (s.windowEnd f) := .trans (.resumeTest stays) .settleRecalls
  exact ⟨(after.rest (.inl rests)).2 rests, after.notices (.inl rests) _ told rfl⟩

/-- A window's end that finds a resume. -/
theorem State.windowEnd_resumes (hs : s.stateOf f = .rest) (cooled : (s.fader f).heat.after ≤ s.settings.heatResume)
    (apart : s.settings.heatResume < s.settings.heatTrip) :
    (s.windowEnd f).stateOf f ≠ .rest ∧ Notice.rest f false .cooled ∈ (s.windowEnd f).notices := by
  have rests : (s.modHeat f Heat.closeWindow).stateOf f = .rest := by rwa [State.SamePool.modHeat.states]
  have still : (s.windowTripped f).stateOf f = .rest := (State.KeepsRest.tripEvent.rest (.inl rests)).2 rests
  have finds : (s.windowTripped f).resumes f = true := by
    rw [State.resumes, still, s.windowTripped_heatOf, s.windowTripped_settings]
    simpa using cooled
  have cool : (s.windowTripped f).heatOf f < (s.windowTripped f).settings.heatTrip := by
    rw [s.windowTripped_heatOf, s.windowTripped_settings]
    exact cooled.trans_lt apart
  have tripless : ((s.windowTripped f).resume f).Tripless f := .of_base (State.base_resume _ f) cool
  obtain ⟨awake, told⟩ := State.resume_leaves cool
  have after : State.KeepsRest f ((s.windowTripped f).resume f) (s.windowEnd f) := by
    rw [s.windowEnd_eq, State.resumeTest, if_pos finds]
    exact .settleRecalls
  exact ⟨fun e => awake ((after.rest tripless).1 e), after.notices tripless _ told rfl⟩

end

/-- Settles O44: the heat changes, and what the tests find of the fader stands through the grants and recalls that
follow. -/
theorem heatWindowEndChangesHeatThenTests : Obligations.HeatWindowEndChangesHeatThenTests := by
  intro f s ready full h heat
  have base : (s.windowEnd f).base = (s.modHeat f Heat.closeWindow).base := by simp [State.windowEnd]
  refine ⟨s.windowEnd f, exec_heatWindowEnd ready full, ?_, ?_, fun f' hf => ?_, State.windowEnd_trips,
    State.windowEnd_resumes⟩
  · rw [State.heat_of_base base, State.modHeat_fader]
    rfl
  · rw [base]
    rfl
  · rw [State.senses_of_base base, State.modHeat, s.fader_modFader_ne _ hf]

/-! ## HEAT-SET: every trip, then every resume (R69) -/

/-- Along a list that names `f`, what the operation at `f` brings about and every other operation keeps holds at the
end. -/
theorem State.each_reaches {P Q : State → Prop} {g : FaderIx → State → State} {f : FaderIx} {l : List FaderIx} {s : State}
    (hP : ∀ m t, P t → P (g m t)) (hf : ∀ t, P t → Q (g f t)) (hQ : ∀ m t, Q t → Q (g m t)) (mem : f ∈ l) (hs : P s) :
    Q (s.each l g) := by
  obtain ⟨before, after, rfl⟩ := List.append_of_mem mem
  have split : s.each (before ++ f :: after) g = (g f (s.each before g)).each after g := by
    simp [State.each, List.foldl_append]
  rw [split]
  exact State.each_keeps hQ after (hf _ (State.each_keeps hP before hs))

section
variable {s : State} {f : FaderIx}

/-- The trips found, in fader order. -/
def State.heatTrips (s : State) : State := s.each (allFaders.filter s.tripFound) fun f s => s.tripEvent f

theorem State.heatTests_eq (s : State) :
    s.heatTests = (s.heatTrips.each (allFaders.filter s.resumes) fun f s => s.resumeTest f).settleRecalls := rfl

@[simp] theorem State.base_heatTrips (s : State) : s.heatTrips.base = s.base :=
  State.base_each _ (fun f s => s.base_tripEvent f) _ _

@[simp] theorem State.base_heatTests (s : State) : s.heatTests.base = s.base := by
  rw [State.heatTests_eq, State.base_settleRecalls, State.base_each _ (fun f s => s.base_resumeTest f),
    State.base_heatTrips]

theorem State.resumes_of_base {t : State} (h : t.base = s.base) (f : FaderIx) :
    t.resumes f = (decide (t.stateOf f = .rest) && decide (s.heatOf f ≤ s.settings.heatResume)) := by
  rw [State.resumes, State.heatOf_of_base h, State.settings_of_base h]

/-- A fader that the trips are to reach rests after them. -/
theorem State.heatTrips_rests (ht : (s.stateOf f).trips = true) (hot : s.settings.heatTrip ≤ s.heatOf f) :
    s.heatTrips.stateOf f = .rest := by
  have found : f ∈ allFaders.filter s.tripFound := by simp [allFaders, State.tripFound, ht, hot]
  have rests (x : FaderIx) (t : State) (h : t.stateOf f = .rest) : (t.tripEvent x).stateOf f = .rest :=
    (State.KeepsRest.tripEvent.rest (.inl h)).2 h
  have tripped (t : State) (hb : t.base = s.base) (h : (t.stateOf f).trips = true ∨ t.stateOf f = .rest) :
      (t.tripEvent f).stateOf f = .rest := by
    rcases h with h | h
    · refine (State.tripEvent_rests h ?_).1
      rw [State.heatOf_of_base hb, State.settings_of_base hb]
      exact hot
    · exact rests f t h
  refine (State.each_reaches (P := fun t => t.base = s.base ∧ ((t.stateOf f).trips = true ∨ t.stateOf f = .rest))
    (Q := fun t => t.stateOf f = .rest) (fun x t ⟨hb, h⟩ => ⟨(t.base_tripEvent x).trans hb, ?_⟩)
    (fun t ⟨hb, h⟩ => tripped t hb h) rests found ⟨rfl, .inl ht⟩ :)
  by_cases hx : f = x
  · subst hx
    exact .inr (tripped t hb h)
  · exact h.imp (State.tripEvent_trips hx) (rests x t)

/-- A trip found against the values in force is carried out (R65, R69). -/
theorem State.heatTests_trips (ht : (s.stateOf f).trips = true) (hot : s.settings.heatTrip ≤ s.heatOf f)
    (warm : s.settings.heatResume < s.heatOf f) : s.heatTests.stateOf f = .rest := by
  have rests : s.heatTrips.base = s.base ∧ s.heatTrips.stateOf f = .rest := ⟨s.base_heatTrips, s.heatTrips_rests ht hot⟩
  obtain ⟨-, still⟩ := State.each_keeps (P := fun t => t.base = s.base ∧ t.stateOf f = .rest)
    (g := fun x t => t.resumeTest x) (l := allFaders.filter s.resumes) (s := s.heatTrips)
    (fun x t ⟨hb, h⟩ => by
      have no : t.resumes f = false := by simpa [State.resumes_of_base hb] using fun _ => warm
      exact ⟨(t.base_resumeTest x).trans hb, ((State.KeepsRest.resumeTest no).rest (.inl h)).2 h⟩) rests
  exact (State.KeepsRest.settleRecalls.rest (.inl still)).2 still

/-- A resume found against the values in force is carried out (R66, R69). -/
theorem State.heatTests_resumes (hs : s.stateOf f = .rest) (cooled : s.heatOf f ≤ s.settings.heatResume)
    (apart : s.settings.heatResume < s.settings.heatTrip) : s.heatTests.stateOf f ≠ .rest := by
  have cool {t : State} (hb : t.base = s.base) : t.heatOf f < t.settings.heatTrip := by
    rw [State.heatOf_of_base hb, State.settings_of_base hb]
    exact cooled.trans_lt apart
  have found : f ∈ allFaders.filter s.resumes := by simp [allFaders, State.resumes, hs, cooled]
  have awake (x : FaderIx) (t : State) (hb : t.base = s.base) (h : t.stateOf f ≠ .rest) :
      (t.resumeTest x).stateOf f ≠ .rest := by
    have no : t.resumes f = false := by simp [State.resumes, h]
    exact fun e => h (((State.KeepsRest.resumeTest no).rest (.inr (cool hb))).1 e)
  have woken (t : State) (hb : t.base = s.base) : (t.resumeTest f).stateOf f ≠ .rest := by
    by_cases h : t.resumes f = true
    · rw [State.resumeTest, if_pos h]
      exact (State.resume_leaves (cool hb)).1
    · refine awake f t hb fun e => h ?_
      simp [State.resumes_of_base hb, e, cooled]
  obtain ⟨base, after⟩ := State.each_reaches (P := fun t => t.base = s.base)
    (Q := fun t => t.base = s.base ∧ t.stateOf f ≠ .rest) (g := fun x t => t.resumeTest x)
    (fun x t hb => (t.base_resumeTest x).trans hb) (fun t hb => ⟨(t.base_resumeTest f).trans hb, woken t hb⟩)
    (fun x t ⟨hb, h⟩ => ⟨(t.base_resumeTest x).trans hb, awake x t hb h⟩) found s.base_heatTrips
  exact fun e => after ((State.KeepsRest.settleRecalls.rest (.inr (cool base))).1 e)

end

/-! ## BUDGET-SET and HEAT-SET on the line (R62, R69) -/

section
variable {s : State}

theorem budgetSetAct_eq (b : Nat) : budgetSetAct b s.contact = if 1 ≤ b ∧ b ≤ 16 then
    taken .none ({ s.contact with settings := { s.settings with budget := b } }).grant else refuse .range s.contact := by
  simp only [budgetSetAct, State.modSettings, State.contact_settings]

/-- The state HEAT-SET leaves before its tests: contact with the host, and the values written. -/
def State.heatSet (s : State) (x y : Nat) : State :=
  { s.contact with settings := { s.settings with heatTrip := x, heatResume := y } }

theorem heatSetAct_eq (x y : Nat) : heatSetAct x y s.contact = if 500 ≤ x ∧ x ≤ 4095 ∧ y + 100 ≤ x then
    taken .none (s.heatSet x y).heatTests else refuse .range s.contact := by
  simp only [heatSetAct, State.modSettings, State.contact_settings, State.heatSet]

theorem State.heatSet_stateOf (x y : Nat) (f : FaderIx) : (s.heatSet x y).stateOf f = s.stateOf f :=
  s.contact_stateOf f

theorem State.heatSet_heatOf (x y : Nat) (f : FaderIx) : (s.heatSet x y).heatOf f = s.heatOf f :=
  congrArg (fun x : Fader => x.heat.heat) (s.contact_fader f)

theorem State.base_heatSet (x y : Nat) : (s.heatSet x y).base =
    { s.base with link := s.contact.link, settings := { s.settings with heatTrip := x, heatResume := y } } := by
  have contact : s.contact.base = { s.base with link := s.contact.link } := by rw [State.contact_base, State.contact_link]
  change { s.contact.base with settings := { s.settings with heatTrip := x, heatResume := y } } = _
  rw [contact]

/-- An answer on the line changes the Link Port only. -/
theorem State.base_closed {t : State} {kind : Nat} {status : Status} {data : ReplyData}
    (h : t.base = { s.base with link := t.link, settings := t.settings }) :
    let u := s.closed t .addressed kind status data
    u.base = { s.base with link := u.link, settings := u.settings } := by
  intro u
  change { t.base with link := u.link } = _
  rw [h]
  rfl

theorem exec_budgetSet (hears : s.hears = true) (b : Nat) : exec (.budgetSet .addressed b) s =
    .next (if 1 ≤ b ∧ b ≤ 16 then
      s.closed ({ s.contact with settings := { s.settings with budget := b } }).grant .addressed 12 .ok .none
    else s.closed s.contact .addressed 12 .range .none) := by
  refine (takeRequest_heard hears (.inl rfl)).trans ?_
  rw [budgetSetAct_eq]
  split <;> rfl

theorem exec_heatSet (hears : s.hears = true) (x y : Nat) : exec (.heatSet .addressed x y) s =
    .next (if 500 ≤ x ∧ x ≤ 4095 ∧ y + 100 ≤ x then s.closed (s.heatSet x y).heatTests .addressed 13 .ok .none
    else s.closed s.contact .addressed 13 .range .none) := by
  refine (takeRequest_heard hears (.inl rfl)).trans ?_
  rw [heatSetAct_eq]
  split <;> rfl

end

/-- A HEAT-SET in range: the values in force at once, with every trip and resume found against them carried out (R69). -/
theorem State.heatSet_taken {s : State} (hears : s.hears = true) {x y : Nat} (low : 500 ≤ x) (high : x ≤ 4095)
    (apart : y + 100 ≤ x) : ∃ t, exec (.heatSet .addressed x y) s = .next t ∧
      t.link.reply = some ⟨s.link.address, 13, .ok, .none, s.link.rate⟩ ∧
      t.settings = { s.settings with heatTrip := x, heatResume := y } ∧
      t.base = { s.base with link := t.link, settings := t.settings } ∧
      ∀ f, ((s.stateOf f).trips = true → x ≤ s.heatOf f → t.stateOf f = .rest) ∧
        (s.stateOf f = .rest → s.heatOf f ≤ y → t.stateOf f ≠ .rest) := by
  have base : (s.heatSet x y).heatTests.base = (s.heatSet x y).base := State.base_heatTests _
  have settings : (s.heatSet x y).heatTests.settings = (s.heatSet x y).settings := State.settings_of_base base
  have address : (s.heatSet x y).heatTests.link.address = s.link.address := by
    rw [State.link_of_base base, show (s.heatSet x y).link = s.contact.link from rfl, State.contact_link]
  rw [exec_heatSet hears, if_pos ⟨low, high, apart⟩]
  refine ⟨_, rfl, ?_, settings, ?_, fun f => ⟨fun trips hot => ?_, fun rests cooled => ?_⟩⟩
  · rw [← address]
    rfl
  · refine State.base_closed ?_
    rw [base, State.base_heatSet, State.link_of_base base, settings]
    rfl
  · have warm : y < s.heatOf f := by omega
    rw [← State.heatSet_stateOf x y] at trips
    rw [← State.heatSet_heatOf x y] at hot warm
    exact State.heatTests_trips trips hot warm
  · have below : y < x := by omega
    rw [← State.heatSet_stateOf x y] at rests
    rw [← State.heatSet_heatOf x y] at cooled
    exact State.heatTests_resumes rests cooled below

/-- Settles O18: the grants along the queue one by one, and the two requests with the tests they call for. -/
theorem slotsGoToQueueHeadAndSettingsAct : Obligations.SlotsGoToQueueHeadAndSettingsAct := by
  refine ⟨fun s hs => ?_, fun s hears => ⟨fun b hb => ?_, fun b low high => ?_, fun x y hxy => ?_,
    fun x y low high apart => State.heatSet_taken hears low high apart⟩⟩
  · obtain ⟨k, le, granted, full, within⟩ := granted_grantAlong s.queue s hs rfl
    exact ⟨k, le, granted.queue, granted.head, granted.others, granted.holders, full, within, s.base_grant,
      s.grant_notices, s.grant_recalls, s.grant_groups⟩
  · rw [exec_budgetSet hears, if_neg (by omega)]
  · rw [exec_budgetSet hears, if_pos ⟨low, high⟩]
  · rw [exec_heatSet hears, if_neg (by omega)]

end Sys2Proof.Machine
end

section
/-! # Faults and calibration: the requests on the line

What an addressed request leaves on the line, and the requests that end a latched fault and a calibration under review:
FAULT-CLEAR (R79), CAL-ACCEPT (R85) and CAL-REJECT (R86). -/

namespace Sys2Proof.Machine

/-! ## An addressed request, answered -/

theorem faderOf_val (f : FaderIx) : faderOf f.val = some f := by simp [faderOf]
theorem faderOf_beyond {n : Nat} (h : 16 ≤ n) : faderOf n = none := by simp [faderOf, Nat.not_lt.2 h]

section answered
variable {s t : State}

/-- The reply to an addressed request bears the part's address and the rate in force (R158). -/
theorem State.closed_reply (h : t.link = s.contact.link) (kind : Nat) (status : Status) (data : ReplyData) :
    (s.closed t .addressed kind status data).link.reply = some ⟨s.link.address, kind, status, data, s.link.rate⟩ := by
  have address : t.link.address = s.link.address := by rw [h, State.contact_link]
  rw [← address]
  rfl

/-- An owner that keeps the base leaves with its answer only the Link Port changed. -/
theorem State.closed_base (h : t.base = s.contact.base) (kind : Nat) (status : Status) (data : ReplyData) :
    let u := s.closed t .addressed kind status data
    u.base = { s.base with link := u.link } := by
  intro u
  change { t.base with link := u.link } = _
  rw [h, State.contact_base]

end answered

/-! ## Condition sets -/

theorem CondSet.has_clear (c d keep : CondSet) (k : Cond) :
    (c.clear d keep).has k = (c.has k && !(d.has k && !keep.has k)) := by cases k <;> rfl

theorem CondSet.has_add (c : CondSet) (k k' : Cond) : (c.add k).has k' = (c.has k' || decide (k' = k)) := by
  cases k <;> cases k' <;> simp [CondSet.add, CondSet.has]

theorem CondSet.has_of_isEmpty {c : CondSet} (h : c.isEmpty = true) (k : Cond) : c.has k = false := by
  cases k <;> simp_all [CondSet.isEmpty, CondSet.has]

theorem CondSet.isEmpty_add (c : CondSet) (k : Cond) : (c.add k).isEmpty = false := by
  cases k <;> simp [CondSet.add, CondSet.isEmpty]

/-! ## FAULT-CLEAR (R79) -/

section faultClear
variable {s : State} {f : FaderIx}

/-- An emptied set takes the fader out of FAULTED, without a claim and at its position (R36, R79). -/
theorem State.leaveFaulted_fader (h : s.stateOf f = .faulted) : (s.leaveFaulted f).fader f = { s.fader f with
    record := { (s.fader f).record with
      state := if (s.fader f).touch.on then .touched else .parked, claim := .none, target := s.posOf f,
      hold := s.posOf f, planned := none, deadline := none, expiry := none }
    motion := (s.fader f).motion.off } := by
  rw [State.leaveFaulted, if_pos h]
  extract_lets st s1
  have undriven : st.driven = false := by unfold st; split <;> rfl
  have left : s1.fader f = { s.fader f with
      record := { (s.fader f).record with
        state := st, claim := .none, target := s.posOf f, hold := s.posOf f, planned := none, deadline := none,
        expiry := none }
      motion := (s.fader f).motion.off } := by
    simp [s1, State.posOf, State.goTo_fader, undriven, Motion.off]
  rw [(Spares.evalLead _ f (.inl ?_)).fader, State.callRetrim_fader, left]
  rw [State.claimOf, State.callRetrim_fader, left]
  rfl

/-- Leaving FAULTED touches no fault items (R79). -/
theorem State.leaveFaulted_fault (s : State) (f f' : FaderIx) :
    ((s.leaveFaulted f).fader f').fault = (s.fader f').fault := by
  unfold State.leaveFaulted
  split
  · extract_lets st s1
    obtain ⟨r, -, e⟩ := State.evalLead_sameButRecord (s1.callRetrim f) f f'
    rw [e, State.callRetrim_fader, State.moveTest_fader]
    by_cases h : f' = f
    · subst h
      simp [State.goTo_fader]
    · rw [State.holdHere_fader_ne _ h, State.clearClaim_fader_ne _ h, State.goTo_fader_ne _ _ h]
  · rfl

/-- The latched conditions that have ceased are removed from the set (R79). -/
def State.faultsCleared (s : State) (f : FaderIx) (c : CondSet) : State :=
  s.modFault f fun x => { x with latched := x.latched.clear c x.current }

/-- An emptied set has no most recent latch once no FAULT notice names it (R77, R79). -/
def State.latchForgotten (s : State) (f : FaderIx) : State :=
  if s.isPending (.fader f .fault) then s else s.modFault f fun x => { x with lastLatch := none }

theorem State.clearFaults_eq (s : State) (f : FaderIx) (c : CondSet) : s.clearFaults f c =
    if ((s.fader f).fault.latched.clear c (s.fader f).fault.current).isEmpty then
      ((s.faultsCleared f c).latchForgotten f).leaveFaulted f
    else s.faultsCleared f c := by
  rw [State.clearFaults]
  simp only [State.modFault_fader]
  rfl

theorem State.latchForgotten_fader (s : State) (f : FaderIx) : ∃ l, (s.latchForgotten f).fader f =
    { s.fader f with fault := { (s.fader f).fault with lastLatch := l } } := by
  unfold State.latchForgotten
  split
  · exact ⟨_, rfl⟩
  · exact ⟨none, State.modFault_fader _ _ _⟩

/-- FAULT-CLEAR writes the latched set of its fader, and of no fader what is current (R79). -/
theorem State.clearFaults_fault (s : State) (f : FaderIx) (c : CondSet) : ∃ l, ((s.clearFaults f c).fader f).fault =
    { (s.fader f).fault with
      latched := (s.fader f).fault.latched.clear c (s.fader f).fault.current, lastLatch := l } := by
  obtain ⟨l, forgot⟩ := (s.faultsCleared f c).latchForgotten_fader f
  rw [State.clearFaults_eq]
  split
  · exact ⟨l, by rw [State.leaveFaulted_fault, forgot, State.faultsCleared, State.modFault_fader]⟩
  · exact ⟨_, by rw [State.faultsCleared, State.modFault_fader]⟩

theorem State.clearFaults_fault_ne (s : State) {f f' : FaderIx} (c : CondSet) (h : f' ≠ f) :
    ((s.clearFaults f c).fader f').fault = (s.fader f').fault := by
  have cleared : (s.faultsCleared f c).fader f' = s.fader f' := s.fader_modFader_ne _ h
  have forgot : ((s.faultsCleared f c).latchForgotten f).fader f' = (s.faultsCleared f c).fader f' := by
    unfold State.latchForgotten
    split
    · rfl
    · exact State.fader_modFader_ne _ _ h
  rw [State.clearFaults_eq]
  split
  · rw [State.leaveFaulted_fault, forgot, cleared]
  · rw [cleared]

/-- While a condition stays latched the fader record stands (R79). -/
theorem State.clearFaults_stays {c : CondSet}
    (h : ((s.fader f).fault.latched.clear c (s.fader f).fault.current).isEmpty = false) :
    ((s.clearFaults f c).fader f).record = (s.fader f).record := by
  rw [State.clearFaults_eq, h, if_neg Bool.false_ne_true, State.faultsCleared, State.modFault_fader]

/-- A set emptied takes the fader out of FAULTED (R36, R79). -/
theorem State.clearFaults_leaves {c : CondSet}
    (h : ((s.fader f).fault.latched.clear c (s.fader f).fault.current).isEmpty = true) (hs : s.stateOf f = .faulted) :
    (s.clearFaults f c).stateOf f = (if (s.fader f).touch.on then .touched else .parked) ∧
      (s.clearFaults f c).claimOf f = .none ∧ (s.clearFaults f c).targetOf f = s.posOf f ∧
      (s.clearFaults f c).holdOf f = s.posOf f := by
  obtain ⟨l, forgot⟩ := (s.faultsCleared f c).latchForgotten_fader f
  rw [State.faultsCleared, State.modFault_fader, ← State.faultsCleared] at forgot
  have faulted : ((s.faultsCleared f c).latchForgotten f).stateOf f = .faulted := by rw [State.stateOf, forgot]; exact hs
  have pos : ((s.faultsCleared f c).latchForgotten f).posOf f = s.posOf f := by rw [State.posOf, forgot]; rfl
  rw [State.clearFaults_eq, if_pos h, State.stateOf, State.claimOf, State.targetOf, State.holdOf,
    State.leaveFaulted_fader faulted, pos, forgot]
  exact ⟨rfl, rfl, rfl, rfl⟩

theorem exec_faultClear (hears : s.hears = true) (n c : Nat) : exec (.faultClear .addressed n c) s =
    .next (s.closed (faultClearAct n c s.contact).st .addressed 8 (faultClearAct n c s.contact).status
      (faultClearAct n c s.contact).data) := takeRequest_heard hears (.inl rfl)

end faultClear

/-- Settles O15: the owner's answer case by case; what is removed, and the fader that leaves FAULTED. -/
theorem faultClearRemovesCeasedConditions : Obligations.FaultClearRemovesCeasedConditions := by
  intro s hears
  refine ⟨fun n c h => ?_, fun f c named => ⟨fun empty => ?_, fun latched => ?_⟩⟩
  · have refused : faultClearAct n c s.contact = refuse .range s.contact := by
      unfold faultClearAct
      split
      · rfl
      · rename_i f hf
        rcases h with h | h
        · rw [faderOf_beyond h] at hf
          cases hf
        · rw [if_pos h]
    rw [exec_faultClear hears, refused]
    rfl
  · have refused : faultClearAct f.val c s.contact = refuse .nothing s.contact := by
      simp [faultClearAct, faderOf_val, named, empty]
    rw [exec_faultClear hears, refused]
    rfl
  · obtain ⟨t, ht⟩ : ∃ t, t = s.contact.clearFaults f (condSetOf c) := ⟨_, rfl⟩
    have given : faultClearAct f.val c s.contact =
        taken (.conditions (t.fader f).fault.latched (t.fader f).fault.current) t := by
      simp [faultClearAct, faderOf_val, named, latched, ht]
    have base : t.base = s.contact.base := by rw [ht]; simp
    obtain ⟨l, fault⟩ := s.contact.clearFaults_fault f (condSetOf c)
    rw [← ht, State.contact_fader] at fault
    refine ⟨s.closed t .addressed 8 .ok (.conditions (t.fader f).fault.latched (t.fader f).fault.current),
      by rw [exec_faultClear hears, given]; rfl, fun k => ?_, ?_, ?_, State.closed_base base _ _ _, fun f' h => ?_,
      fun still => ?_, fun emptied faulted => ?_⟩
    · change (t.fader f).fault.latched.has k = _
      rw [fault, CondSet.has_clear]
    · change (t.fader f).fault.current = _
      rw [fault]
    · exact State.closed_reply (State.link_of_base base) _ _ _
    · change (t.fader f').fault = _
      rw [ht, State.clearFaults_fault_ne _ _ h, State.contact_fader]
    · change (t.fader f).record = _
      change (t.fader f).fault.latched.isEmpty = false at still
      rw [fault] at still
      rw [ht, State.clearFaults_stays (by rwa [State.contact_fader]), State.contact_fader]
    · change (t.fader f).fault.latched.isEmpty = true at emptied
      rw [fault] at emptied
      have left := State.clearFaults_leaves (s := s.contact) (f := f) (c := condSetOf c) (by rwa [State.contact_fader])
        (by rwa [State.contact_stateOf])
      rw [← ht, State.contact_fader, State.contact_posOf] at left
      exact left

end Sys2Proof.Machine
end

section
namespace Sys2Proof.Machine

/-! ## The end of a review: CAL-ACCEPT (R85) and CAL-REJECT (R86) -/

section review
variable {s : State} {f : FaderIx}

/-- A PARKED fader without a claim stands through the MOVE test, the lead and the grant rule (R28, R60, R94). -/
theorem State.moveTest_evalLead_grant_fader (hs : s.stateOf f = .parked) (hc : s.claimOf f = .none) :
    ((((s.moveTest f).evalLead f).grant).fader f) = s.fader f := by
  have tested : (s.moveTest f).fader f = s.fader f := State.moveTest_fader _ _ _
  have spared : Spares f (s.moveTest f) (((s.moveTest f).evalLead f).grant) :=
    .evalLead_grant f (.inl (by rw [State.claimOf, tested, ← State.claimOf, hc]; rfl))
      (by rw [State.stateOf, tested, ← State.stateOf, hs]; rfl)
  rw [spared.fader, tested]

/-- A calibration that has ended otherwise than by touch, fault or trip leaves its fader PARKED at its position (R36). -/
theorem State.parkCalibrated_fader (s : State) (f : FaderIx) : (s.parkCalibrated f).fader f = { s.fader f with
    record := { (s.fader f).record with
      state := .parked, claim := .none, target := s.posOf f, hold := s.posOf f, planned := none, deadline := none,
      expiry := none }
    motion := (s.fader f).motion.off } := by
  have parked : (((s.goTo f .parked).clearClaim f).holdHere f).fader f = { s.fader f with
      record := { (s.fader f).record with
        state := .parked, claim := .none, target := s.posOf f, hold := s.posOf f, planned := none, deadline := none,
        expiry := none }
      motion := (s.fader f).motion.off } := by
    simp [State.posOf, State.goTo_fader, FaderState.driven, Motion.off]
  have stays := State.moveTest_evalLead_grant_fader (s := ((s.goTo f .parked).clearClaim f).holdHere f) (f := f)
    (by rw [State.stateOf, parked]) (by rw [State.claimOf, parked])
  rw [← parked, ← stays]
  rfl

/-- A result rejected is discarded, and the fader parks at its position (R86). -/
theorem State.rejectCalibration_fader (s : State) (f : FaderIx) : (s.rejectCalibration f).fader f = { s.fader f with
    record := { (s.fader f).record with
      state := .parked, claim := .none, target := s.posOf f, hold := s.posOf f, planned := none, deadline := none,
      expiry := none, pendingCal := none }
    motion := (s.fader f).motion.off, cal := none } := by
  rw [State.rejectCalibration, State.parkCalibrated_fader]
  simp [State.posOf]

/-- A result accepted is the working calibration of its fader (R85). -/
def State.calibratedTo (s : State) (f : FaderIx) (c : CalResult) : State :=
  s.modConfig f fun x => { x with calLow := c.low, calHigh := c.high }

theorem State.base_acceptCalibration (s : State) (f : FaderIx) (c : CalResult) :
    (s.acceptCalibration f c).base = (s.calibratedTo f c).base := by
  simp [State.acceptCalibration, State.calibratedTo]

/-- The fader parks, with its hold target taken through the new calibration (R85). -/
theorem State.acceptCalibration_fader (s : State) (f : FaderIx) (c : CalResult) :
    (s.acceptCalibration f c).fader f = { s.fader f with
      record := { (s.fader f).record with
        state := .parked, claim := .none, target := mapRaw c.low c.high (s.fader f).track.raw,
        hold := mapRaw c.low c.high (s.fader f).track.raw, planned := none, deadline := none, expiry := none,
        pendingCal := none }
      motion := (s.fader f).motion.off, cal := none } := by
  unfold State.acceptCalibration
  extract_lets s1 t s2
  have read : s1.fader f = { s.fader f with cal := none } := State.setCal_fader _ _ _
  have parked : s2.fader f = { s.fader f with
      record := { (s.fader f).record with
        state := .parked, claim := .none, target := mapRaw c.low c.high (s.fader f).track.raw,
        hold := mapRaw c.low c.high (s.fader f).track.raw, planned := none, deadline := none, expiry := none,
        pendingCal := none }
      motion := (s.fader f).motion.off, cal := none } := by
    simp [s2, t, State.goTo_fader, read, FaderState.driven, Motion.off]
  rw [State.moveTest_evalLead_grant_fader (by rw [State.stateOf, parked]) (by rw [State.claimOf, parked]), parked]

/-- The base after an owner has written settings: of what a request leaves, the settings and the Link Port. -/
theorem State.base_calibratedTo_contact (s : State) (f : FaderIx) (c : CalResult) :
    (s.contact.calibratedTo f c).base =
      { s.base with link := s.contact.link, settings := (s.contact.calibratedTo f c).settings } := by
  change { s.contact.base with settings := (s.contact.calibratedTo f c).settings } = _
  rw [State.contact_base, State.contact_link]

theorem exec_calAccept (hears : s.hears = true) (n : Nat) : exec (.calAccept .addressed n) s =
    .next (s.closed (calAcceptAct n s.contact).st .addressed 10 (calAcceptAct n s.contact).status
      (calAcceptAct n s.contact).data) := takeRequest_heard hears (.inl rfl)
theorem exec_calReject (hears : s.hears = true) (n : Nat) : exec (.calReject .addressed n) s =
    .next (s.closed (calRejectAct n s.contact).st .addressed 11 (calRejectAct n s.contact).status
      (calRejectAct n s.contact).data) := takeRequest_heard hears (.inl rfl)

/-- The answer outside CAL-REVIEW (R85, R86). -/
theorem State.noReview_eq (s : State) (f : FaderIx) : s.noReview f =
    refuse (match s.stateOf f with | .calibrating _ => .state | .faulted => .faulted | _ => .nothing) s := by
  unfold State.noReview
  cases s.stateOf f <;> rfl

/-- Outside CAL-REVIEW both requests are refused alike. -/
theorem noReview_answers (h : s.stateOf f ≠ .calibrating .calReview) :
    calAcceptAct f.val s = s.noReview f ∧ calRejectAct f.val s = s.noReview f := by
  rw [calAcceptAct, calRejectAct, faderOf_val]
  constructor
  · dsimp only
    split
    · rename_i e _
      exact absurd e h
    · rfl
  · dsimp only
    split
    · rename_i e
      exact absurd e h
    · rfl

/-- CAL-ACCEPT in CAL-REVIEW (R85). -/
theorem calAcceptAct_review {c : CalResult} (h : s.stateOf f = .calibrating .calReview)
    (hc : (s.fader f).record.pendingCal = some c) : calAcceptAct f.val s =
      if s.storing.isSome then refuse .storeBusy s
      else taken ((s.acceptCalibration f c).calibrationData f) (s.acceptCalibration f c) := by
  rw [calAcceptAct, faderOf_val]
  simp only [h, hc]

/-- CAL-REJECT in CAL-REVIEW (R86). -/
theorem calRejectAct_review (h : s.stateOf f = .calibrating .calReview) : calRejectAct f.val s =
    taken ((s.rejectCalibration f).calibrationData f) (s.rejectCalibration f) := by
  rw [calRejectAct, faderOf_val]
  simp only [h]

/-- The accepted result in force, the fader parked where it maps the reading (R85). -/
theorem State.review_accepted (hears : s.hears = true) (h : s.stateOf f = .calibrating .calReview) {c : CalResult}
    (hc : (s.fader f).record.pendingCal = some c) (idle : s.storing = none) :
    ∃ t, exec (.calAccept .addressed f.val) s = .next t ∧
      t.config f = { s.config f with calLow := c.low, calHigh := c.high } ∧
      t.targetOf f = mapRaw c.low c.high (s.fader f).track.raw ∧
      t.holdOf f = mapRaw c.low c.high (s.fader f).track.raw ∧
      t.stateOf f = .parked ∧ t.claimOf f = .none ∧ (t.fader f).record.pendingCal = none ∧ (t.fader f).cal = none ∧
      t.link.reply = some ⟨s.link.address, 10, .ok, .calibration c.low c.high, s.link.rate⟩ ∧
      t.base = { s.base with link := t.link, settings := t.settings } ∧ ∀ f', f' ≠ f → t.config f' = s.config f' := by
  obtain ⟨t, ht⟩ : ∃ t, t = s.contact.acceptCalibration f c := ⟨_, rfl⟩
  have fader := s.contact.acceptCalibration_fader f c
  have base := s.contact.base_acceptCalibration f c
  rw [← ht] at base fader
  have settings : t.settings = (s.contact.calibratedTo f c).settings := State.settings_of_base base
  have config : t.config f = { s.config f with calLow := c.low, calHigh := c.high } := by
    rw [State.config, settings, ← State.config, State.calibratedTo, State.config_modConfig, State.contact_config]
  have others (f' : FaderIx) (hf : f' ≠ f) : t.config f' = s.config f' := by
    rw [State.config, settings, ← State.config, State.calibratedTo, State.config_modConfig_ne _ _ hf,
      State.contact_config]
  have given : calAcceptAct f.val s.contact = taken (.calibration c.low c.high) t := by
    rw [calAcceptAct_review (by rwa [State.contact_stateOf]) (by rwa [State.contact_fader]), State.contact_storing, idle,
      ← ht, State.calibrationData, config]
    rfl
  have line : t.link = s.contact.link := (State.link_of_base base :)
  have wrote : t.base = { s.base with link := t.link, settings := t.settings } := by
    rw [base, State.base_calibratedTo_contact, line, settings]
  rw [State.contact_fader] at fader
  change (s.closed t .addressed 10 .ok (.calibration c.low c.high)).fader f = _ at fader
  refine ⟨s.closed t .addressed 10 .ok (.calibration c.low c.high), by rw [exec_calAccept hears, given]; rfl, config, ?_⟩
  rw [State.targetOf, State.holdOf, State.stateOf, State.claimOf, fader]
  exact ⟨rfl, rfl, rfl, rfl, rfl, rfl, State.closed_reply line _ _ _, State.base_closed wrote, others⟩

/-- The old calibration kept, the fader parked at its position (R86). -/
theorem State.review_rejected (hears : s.hears = true) (h : s.stateOf f = .calibrating .calReview) :
    ∃ t, exec (.calReject .addressed f.val) s = .next t ∧ t.targetOf f = s.posOf f ∧ t.holdOf f = s.posOf f ∧
      t.stateOf f = .parked ∧ t.claimOf f = .none ∧ (t.fader f).record.pendingCal = none ∧ (t.fader f).cal = none ∧
      t.link.reply = some ⟨s.link.address, 11, .ok, .calibration (s.config f).calLow (s.config f).calHigh,
        s.link.rate⟩ ∧ t.base = { s.base with link := t.link } := by
  obtain ⟨t, ht⟩ : ∃ t, t = s.contact.rejectCalibration f := ⟨_, rfl⟩
  have fader := s.contact.rejectCalibration_fader f
  rw [← ht] at fader
  have base : t.base = s.contact.base := by rw [ht]; simp
  have config : t.config f = s.config f := by
    rw [State.config, State.settings_of_base base, ← State.config, State.contact_config]
  have given : calRejectAct f.val s.contact = taken (.calibration (s.config f).calLow (s.config f).calHigh) t := by
    rw [calRejectAct_review (by rwa [State.contact_stateOf]), ← ht, State.calibrationData, config]
  rw [State.contact_fader, State.contact_posOf] at fader
  change (s.closed t .addressed 11 .ok (.calibration (s.config f).calLow (s.config f).calHigh)).fader f = _ at fader
  refine ⟨s.closed t .addressed 11 .ok (.calibration (s.config f).calLow (s.config f).calHigh),
    by rw [exec_calReject hears, given]; rfl, ?_⟩
  rw [State.targetOf, State.holdOf, State.stateOf, State.claimOf, fader]
  exact ⟨rfl, rfl, rfl, rfl, rfl, rfl, State.closed_reply (State.link_of_base base) _ _ _, State.closed_base base _ _ _⟩

end review

/-- Settles O17: the refusals by the fader's number and state, and the two ends of a review. -/
theorem reviewEndsByAcceptOrReject : Obligations.ReviewEndsByAcceptOrReject := by
  intro s hears
  refine ⟨fun n h => ?_, fun f => ⟨fun other => ?_, fun review c pending => ⟨fun busy => ?_, fun idle => ?_, ?_⟩⟩⟩
  · rw [exec_calAccept hears, exec_calReject hears, calAcceptAct, calRejectAct, faderOf_beyond h]
    exact ⟨rfl, rfl⟩
  · obtain ⟨accept, reject⟩ := noReview_answers (s := s.contact) (f := f) (by rwa [State.contact_stateOf])
    rw [exec_calAccept hears, exec_calReject hears, accept, reject, State.noReview_eq, State.contact_stateOf]
    exact ⟨rfl, rfl⟩
  · rw [exec_calAccept hears, calAcceptAct_review (by rwa [State.contact_stateOf]) (by rwa [State.contact_fader]),
      State.contact_storing, if_pos (Option.isSome_iff_ne_none.2 busy)]
    rfl
  · exact State.review_accepted hears review pending idle
  · exact State.review_rejected hears review

end Sys2Proof.Machine
end

section
namespace Sys2Proof.Machine

/-! # CALIBRATE (R81): a fader taken into calibration -/

/-! ## What the grant rule and the lead leave of a fader record -/

/-- A slot granted changes no more of a fader record than its state (R60). -/
theorem State.grantTo_record (s : State) (x f : FaderIx) :
    ((s.grantTo x).fader f).record = { (s.fader f).record with state := (s.grantTo x).stateOf f } := by
  by_cases hx : f = x
  · subst hx
    cases h : (s.stateOf f).queued
    · rw [State.stateOf, (Spares.grantTo s f h).fader]
    · rcases FaderState.queued_iff.1 h with hs | hs
      · obtain ⟨m, -, e⟩ := s.grantTo_waiting hs
        rw [State.stateOf, e]
      · obtain ⟨m, y, c, -, e⟩ := s.grantTo_calWait hs
        rw [State.stateOf, e]
  · rw [State.stateOf, s.grantTo_fader_ne hx]

theorem grantAlong_record (l : List FaderIx) (s : State) (f : FaderIx) :
    ((grantAlong l s).fader f).record = { (s.fader f).record with state := (grantAlong l s).stateOf f } := by
  induction l generalizing s with
  | nil => rfl
  | cons x l ih =>
    unfold grantAlong
    split
    · rw [ih, State.grantTo_record]
    · rfl

section given
variable {s : State} {f : FaderIx}

/-- After the grant rule and the lead a fader that holds no FOLLOW claim has its record as it was but for a slot granted,
and its notices. -/
theorem State.grant_evalLead_record (x : FaderIx) (hc : (s.claimOf f).isFollow = false) :
    (((s.grant).evalLead x).fader f).record = { (s.fader f).record with state := s.grant.stateOf f } ∧
      ∀ n ∈ s.notices, ∀ k, n.key = .fader f k → n ∈ ((s.grant).evalLead x).notices := by
  have granted : (s.grant.fader f).record = { (s.fader f).record with state := s.grant.stateOf f } :=
    grantAlong_record _ s f
  have led : Spares f s.grant ((s.grant).evalLead x) := .evalLead _ x (.inl (by rw [State.claimOf, granted]; exact hc))
  exact ⟨by rw [led.fader, granted], fun n hn k hk => led.notices n (by rwa [State.grant_notices]) k hk⟩

/-! ## One fader taken, as far as the heat test -/

/-- A DIRECT claim of a fader taken ends SUPERSEDED, at the fader's position (R26, R81). -/
def State.directEnded (s : State) (f : FaderIx) : State :=
  if s.claimOf f = .direct then (((s.reportEnd f .superseded).clearClaim f).holdHere f) else s

/-- One fader of the set taken, as far as the heat test: it is in CAL-WAIT at the tail of the queue (R81). -/
def State.calEntered (s : State) (f : FaderIx) : State :=
  ((((s.directEnded f).goTo f (.calibrating .calWait)).setCal f (some ⟨none, none, none⟩)).modRecord f fun r =>
    { r with pendingCal := none }).claimEnded f (s.claimOf f)

/-- The heat test made on entry to CAL-WAIT (R65, R81). -/
def State.calTested (s : State) (f : FaderIx) : State :=
  (s.calEntered f).tripTest f (decide (s.claimOf f = .direct))

theorem State.calibrateOne_eq (s : State) (f : FaderIx) : s.calibrateOne f = ((s.calTested f).grant).evalLead f := rfl

@[simp] theorem State.base_directEnded (s : State) (f : FaderIx) : (s.directEnded f).base = s.base := by
  unfold State.directEnded; split <;> simp
@[simp] theorem State.base_calEntered (s : State) (f : FaderIx) : (s.calEntered f).base = s.base := by
  simp [State.calEntered]
@[simp] theorem State.base_calTested (s : State) (f : FaderIx) : (s.calTested f).base = s.base := by
  simp [State.calTested]

theorem State.directEnded_fader (s : State) (f : FaderIx) : (s.directEnded f).fader f = { s.fader f with
    record := if s.claimOf f = .direct then { (s.fader f).record with
        claim := .none, planned := none, deadline := none, expiry := none, target := s.posOf f, hold := s.posOf f }
      else (s.fader f).record } := by
  unfold State.directEnded
  split <;> simp [State.posOf]

theorem State.calEntered_fader (s : State) (f : FaderIx) : (s.calEntered f).fader f = { (s.directEnded f).fader f with
    record := { ((s.directEnded f).fader f).record with state := .calibrating .calWait, pendingCal := none }
    motion := (s.fader f).motion.off, cal := some ⟨none, none, none⟩ } := by
  have motion : ((s.directEnded f).fader f).motion = (s.fader f).motion := by rw [State.directEnded_fader]
  simp [State.calEntered, State.goTo_fader, FaderState.driven, Motion.off, motion]

theorem State.calEntered_stateOf (s : State) (f : FaderIx) : (s.calEntered f).stateOf f = .calibrating .calWait := by
  rw [State.stateOf, State.calEntered_fader]

theorem State.SamePool.directEnded : SamePool s (s.directEnded f) :=
  .incase ((SamePool.reportEnd.trans .clearClaim).trans .holdHere)

theorem State.KeepsQueue.calEntered : KeepsQueue s (s.calEntered f) :=
  ((KeepsQueue.of_same .directEnded).trans .goTo).same ((SamePool.setCal.trans .modRecord).trans .claimEnded)

/-- The fader leaves the place it had in an exact queue and joins the tail (R81). -/
theorem State.calEntered_queue (hs : s.queueExact) : (s.calEntered f).queue = s.queue.filter (· ≠ f) ++ [f] := by
  have joined := State.queueExact.goTo_queue (KeepsQueue.of_same (.directEnded (f := f)) hs) f (.calibrating .calWait)
  rw [State.calEntered, State.claimEnded_queue, State.modRecord_queue, State.setCal_queue, joined,
    SamePool.directEnded.queue]
  rfl

/-- Taking a fader spares the others. -/
theorem State.Spares.calEntered {x : FaderIx} (h : f ≠ x) : Spares f s (s.calEntered x) := by
  have ends : Spares f s (s.directEnded x) := by
    unfold State.directEnded
    split
    · exact ((reportEnd s _ h).trans (clearClaim _ h)).trans (modRecord _ _ h)
    · exact refl f s
  exact (((ends.trans (goTo _ _ h)).trans (modFader _ _ h)).trans (modRecord _ _ h)).trans (claimEnded _ _ _)

/-- A DIRECT claim ends SUPERSEDED with its MOTION notice (R27, R81). -/
theorem State.calEntered_direct (h : s.claimOf f = .direct) :
    Notice.motion f .direct .superseded (s.posOf f) false ∈ (s.calEntered f).notices := by
  have raised : Notice.motion f .direct .superseded (s.posOf f) false ∈ (s.reportEnd f .superseded).notices := by
    simp only [State.reportEnd, h]
    exact mem_raiseInto _ _ nofun
  rw [State.calEntered, State.claimEnded_notices, State.modRecord_notices, State.setCal, State.modFader_notices,
    State.goTo_notices, State.directEnded, if_pos h]
  exact raised

/-! ## The heat test on entry to CAL-WAIT -/

/-- Below the trip value the fader stands in CAL-WAIT (R65). -/
theorem State.calTested_cool (cool : s.heatOf f < s.settings.heatTrip) : s.calTested f = s.calEntered f :=
  (State.Tripless.of_base (s.base_calEntered f) cool).tripTest_eq _

/-- A trip in a calibration: the calibration ends TIMEOUT with the values captured, and the fader rests at its position
without a claim (R65). -/
theorem State.tripTest_calibrating {p : CalPhase} (q : Bool) (hs : s.stateOf f = .calibrating p)
    (ht : (FaderState.calibrating p).trips = true) (hot : s.settings.heatTrip ≤ s.heatOf f) :
    let t := s.tripTest f q
    (t.fader f).record = { (s.fader f).record with
      state := .rest, claim := .none, planned := none, deadline := none, expiry := none, target := s.posOf f,
      hold := s.posOf f, pendingCal := none } ∧
    t.queue = (s.goTo f .rest).queue ∧
    Notice.cal f .timeout p ((s.fader f).cal.bind (·.low)) ((s.fader f).cal.bind (·.high)) none ∈ t.notices ∧
    Notice.rest f true .heat ∈ t.notices ∧ ∀ n ∈ s.notices, n.key = .fader f .motion → n ∈ t.notices := by
  intro t
  obtain ⟨u, hu⟩ : ∃ u, u = (((s.endCalibration f .timeout none).goTo f .rest).clearClaim f).holdHere f := ⟨_, rfl⟩
  have ends : t = (u.entryTest f q).raise (.rest f true .heat) := by
    have moving : (s.stateOf f).moving = false := by rw [hs]; rfl
    rw [hu]
    simp only [t, State.tripTest, if_pos hot, State.trip, hs, ht, if_true, FaderState.moving, Bool.false_eq_true, if_false]
  have ended : s.endCalibration f .timeout none =
      ((s.raise (.cal f .timeout p ((s.fader f).cal.bind (·.low)) ((s.fader f).cal.bind (·.high)) none)).setCal f
        none).modRecord f fun r => { r with pendingCal := none } := by
    simp [State.endCalibration, hs, FaderState.phase]
  have fader : u.fader f = { s.fader f with
      record := { (s.fader f).record with
        state := .rest, claim := .none, planned := none, deadline := none, expiry := none, target := s.posOf f,
        hold := s.posOf f, pendingCal := none }
      motion := (s.fader f).motion.off, cal := none } := by
    simp [hu, ended, State.goTo_fader, State.posOf, FaderState.driven, Motion.off]
  have notices : u.notices = (s.raise (.cal f .timeout p ((s.fader f).cal.bind (·.low)) ((s.fader f).cal.bind (·.high))
      none)).notices := by
    rw [hu, State.holdHere_notices, State.clearClaim_notices, State.goTo_notices, ended]
    rfl
  have kept {n : Notice} (hn : n ∈ u.notices) (hm : n.key ≠ .fader f .move) (hr : n.key ≠ .fader f .rest) :
      n ∈ t.notices := by
    rw [ends]
    exact mem_raiseInto_of_ne (State.mem_entryTest q hn hm) hr
  refine ⟨?_, ?_, kept ?_ nofun nofun, ?_, fun n hn hk => kept ?_ (by rw [hk]; nofun) (by rw [hk]; nofun)⟩
  · rw [ends, State.fader_raise, State.entryTest_fader, fader]
  · have state : (s.endCalibration f .timeout none).stateOf f = s.stateOf f := SamePool.endCalibration.states f
    rw [ends, State.raise_queue, State.entryTest_queue, hu, State.holdHere, State.modRecord_queue, State.clearClaim,
      State.modRecord_queue, State.goTo_queue, State.goTo_queue, state, SamePool.endCalibration.queue]
  · rw [notices]
    exact mem_raiseInto _ _ nofun
  · rw [ends]
    exact mem_raiseInto _ _ nofun
  · rw [notices]
    exact mem_raiseInto_of_ne hn (by rw [hk]; nofun)

/-- At or above the trip value the fader rests at its position, its calibration ended TIMEOUT (R65, R81). -/
theorem State.calTested_hot (hot : s.settings.heatTrip ≤ s.heatOf f) :
    let t := s.calTested f
    t.stateOf f = .rest ∧ t.claimOf f = .none ∧ (t.fader f).record.pendingCal = none ∧ t.targetOf f = s.posOf f ∧
      t.holdOf f = s.posOf f ∧ t.queue = (s.calEntered f).queue.filter (· ≠ f) ∧
      Notice.cal f .timeout .calWait none none none ∈ t.notices ∧ Notice.rest f true .heat ∈ t.notices ∧
      ∀ n ∈ (s.calEntered f).notices, n.key = .fader f .motion → n ∈ t.notices := by
  intro t
  have hot' : (s.calEntered f).settings.heatTrip ≤ (s.calEntered f).heatOf f := by
    rwa [State.settings_of_base (s.base_calEntered f), State.heatOf_of_base (s.base_calEntered f)]
  have pos : (s.calEntered f).posOf f = s.posOf f := by
    rw [State.posOf, State.calEntered_fader, State.directEnded_fader]; rfl
  have waits := s.calEntered_stateOf f
  obtain ⟨record, queue, cal, rest, kept⟩ :=
    State.tripTest_calibrating (decide (s.claimOf f = .direct)) waits rfl hot'
  rw [State.calEntered_fader] at cal
  rw [pos] at record
  rw [State.goTo_queue, waits] at queue
  have queue' : t.queue = (s.calEntered f).queue.filter (· ≠ f) := queue.trans (List.append_nil _)
  change (t.fader f).record = _ at record
  rw [State.stateOf, State.claimOf, State.targetOf, State.holdOf, record]
  exact ⟨rfl, rfl, rfl, rfl, rfl, queue', cal, rest, kept⟩

/-! ## One fader taken whole -/

/-- A fader taken holds no claim and no pending result at the heat test. -/
theorem State.calTested_claimless (hc : s.claimOf f = .none ∨ s.claimOf f = .direct) :
    (s.calTested f).claimOf f = .none ∧ ((s.calTested f).fader f).record.pendingCal = none := by
  rcases Nat.lt_or_ge (s.heatOf f) s.settings.heatTrip with cool | hot
  · rw [State.calTested_cool cool, State.claimOf, State.calEntered_fader, State.directEnded_fader]
    refine ⟨?_, rfl⟩
    dsimp only
    split
    · rfl
    · exact hc.resolve_right ‹_›
  · obtain ⟨-, claim, pending, -⟩ := State.calTested_hot hot
    exact ⟨claim, pending⟩

/-- What a fader taken has at the heat test stands through the grant rule and the lead, but for a slot granted. -/
theorem State.calibrateOne_record (hc : s.claimOf f = .none ∨ s.claimOf f = .direct) :
    ((s.calibrateOne f).fader f).record =
        { ((s.calTested f).fader f).record with state := (s.calTested f).grant.stateOf f } ∧
      ∀ n ∈ (s.calTested f).notices, ∀ k, n.key = .fader f k → n ∈ (s.calibrateOne f).notices := by
  rw [State.calibrateOne_eq]
  exact State.grant_evalLead_record f (by rw [(State.calTested_claimless hc).1]; rfl)

/-- A cool fader taken waits for its slot or has it, without a claim and without a pending result (R60, R81). -/
theorem State.calibrateOne_cool (hc : s.claimOf f = .none ∨ s.claimOf f = .direct)
    (cool : s.heatOf f < s.settings.heatTrip) :
    let t := s.calibrateOne f
    t.claimOf f = .none ∧ (t.fader f).record.pendingCal = none ∧
      (t.stateOf f = .calibrating .calWait ∨ t.stateOf f = .calibrating .calDown) := by
  intro t
  obtain ⟨claim, pending⟩ := State.calTested_claimless hc
  have slot := State.grant_stateOf (s.calTested f) f
  have waits : (s.calTested f).stateOf f = .calibrating .calWait := by
    rw [State.calTested_cool cool, State.calEntered_stateOf]
  rw [waits] at slot
  rw [State.claimOf, State.stateOf, (State.calibrateOne_record hc).1]
  exact ⟨claim, pending, slot⟩

/-- A fader taken leaves another's claim, pending result and state as they are, but for a slot granted. -/
theorem State.calibrateOne_other {x : FaderIx} (h : f ≠ x) (hc : (s.claimOf f).isFollow = false) :
    ((s.calibrateOne x).claimOf f = s.claimOf f ∧
      ((s.calibrateOne x).fader f).record.pendingCal = (s.fader f).record.pendingCal) ∧
    ((s.calibrateOne x).stateOf f = s.stateOf f ∨ (s.calibrateOne x).stateOf f = (s.stateOf f).granted) := by
  have tested : (s.calTested x).fader f = s.fader f := ((Spares.calEntered h).trans (.tripTest _ _ h)).fader
  have record := (State.grant_evalLead_record (s := s.calTested x) (f := f) x (by rw [State.claimOf, tested]; exact hc)).1
  rw [← State.calibrateOne_eq, tested] at record
  have slot := State.grant_stateOf (s.calTested x) f
  rw [State.stateOf, State.stateOf, tested] at slot
  refine ⟨?_, ?_⟩
  · rw [State.claimOf, record]
    exact ⟨rfl, rfl⟩
  · rw [State.stateOf, record]
    exact slot

end given

/-! ## The owner's answer -/

section answer
variable {s : State} {faders : BitVec 16}

theorem mem_fadersOf {f : FaderIx} : f ∈ fadersOf faders ↔ faders.getLsbD f.val = true := by
  simp [fadersOf, allFaders]

theorem State.contact_calRefusal (s : State) (f : FaderIx) : s.contact.calRefusal f = s.calRefusal f := by
  rw [State.calRefusal, State.calRefusal, State.contact_stateOf, State.contact_claimOf]

theorem exec_calibrate (hears : s.hears = true) (faders : BitVec 16) : exec (.calibrate .addressed faders) s =
    .next (s.closed (calibrateAct faders s.contact).st .addressed 9 (calibrateAct faders s.contact).status
      (calibrateAct faders s.contact).data) := takeRequest_heard hears (.inl rfl)

/-- The first fader of the set that meets a case of Table 5-3 gives the refusal. -/
theorem State.firstRefusal_of_first {f : FaderIx} {st : Status} (hf : faders.getLsbD f.val = true)
    (hs : s.calRefusal f = some st) (first : ∀ f', f' < f → faders.getLsbD f'.val = true → s.calRefusal f' = none) :
    s.firstRefusal (fadersOf faders) = some (f, st) := by
  obtain ⟨before, after, split⟩ := List.append_of_mem (mem_fadersOf.2 hf)
  have sorted : (fadersOf faders).Pairwise (· < ·) := (List.pairwise_lt_finRange 16).filter _
  have quiet : before.findSome? (fun f => (s.calRefusal f).map fun st => (f, st)) = none := by
    rw [List.findSome?_eq_none_iff]
    intro x hx
    rw [split, List.pairwise_append] at sorted
    have below : x < f := sorted.2.2 x hx f List.mem_cons_self
    have named : faders.getLsbD x.val = true := mem_fadersOf.1 (split ▸ List.mem_append_left _ hx)
    rw [first x below named]
    rfl
  rw [State.firstRefusal, split, List.findSome?_append, quiet, List.findSome?_cons, hs]
  rfl

/-- Without a fader that refuses the whole set is taken. -/
theorem calibrateAct_taken (h : faders ≠ 0#16) (free : ∀ f : FaderIx, faders.getLsbD f.val = true → s.calRefusal f = none) :
    calibrateAct faders s = accepted .none (s.each (fadersOf faders) fun f s => s.calibrateOne f) := by
  have none_refuses : s.firstRefusal (fadersOf faders) = none := by
    rw [State.firstRefusal, List.findSome?_eq_none_iff]
    intro f hf
    rw [free f (mem_fadersOf.1 hf)]
    rfl
  rw [calibrateAct, if_neg h, none_refuses]

/-- A fader that does not refuse holds NONE or DIRECT (Table 5-3). -/
theorem State.calRefusal_none {f : FaderIx} (h : s.calRefusal f = none) : s.claimOf f = .none ∨ s.claimOf f = .direct := by
  unfold State.calRefusal at h
  split at h
  · cases h
  · cases h
  · cases h
  · cases h
  · split at h
    · cases h
    · cases h
    · cases h
    · rename_i not_recall not_lane not_follow
      match hc : s.claimOf f with
      | .none => exact .inl rfl
      | .direct => exact .inr rfl
      | .recall tag i => exact absurd hc (not_recall tag i)
      | .lane b => exact absurd hc (not_lane b)
      | .follow g => exact absurd hc (not_follow g)

/-- Every cool fader of the set is in calibration once the whole set is taken: its own turn brings it there, and the turns of
the others leave it there (R81). -/
theorem State.calibrated_set {f : FaderIx} (hf : faders.getLsbD f.val = true)
    (hc : s.claimOf f = .none ∨ s.claimOf f = .direct) (cool : s.heatOf f < s.settings.heatTrip) :
    let t := s.each (fadersOf faders) fun f s => s.calibrateOne f
    t.claimOf f = .none ∧ (t.fader f).record.pendingCal = none ∧
      (t.stateOf f = .calibrating .calWait ∨ t.stateOf f = .calibrating .calDown) := by
  intro t
  have cool_at {u : State} (hb : u.base = s.base) : u.heatOf f < u.settings.heatTrip := by
    rwa [State.heatOf_of_base hb, State.settings_of_base hb]
  have base {u : State} (x : FaderIx) (hb : u.base = s.base) : (u.calibrateOne x).base = s.base :=
    (u.base_calibrateOne x).trans hb
  have claimless {u : State} (h : u.claimOf f = .none ∨ u.claimOf f = .direct) : (u.claimOf f).isFollow = false := by
    rcases h with h | h <;> rw [h] <;> rfl
  refine (State.each_reaches (P := fun u => u.base = s.base ∧ (u.claimOf f = .none ∨ u.claimOf f = .direct))
    (Q := fun u => u.base = s.base ∧ u.claimOf f = .none ∧ (u.fader f).record.pendingCal = none ∧
      (u.stateOf f = .calibrating .calWait ∨ u.stateOf f = .calibrating .calDown))
    (fun x u ⟨hb, h⟩ => ⟨base x hb, ?_⟩) (fun u ⟨hb, h⟩ => ⟨base f hb, State.calibrateOne_cool h (cool_at hb)⟩)
    (fun x u ⟨hb, hn, hp, hs⟩ => ⟨base x hb, ?_⟩) (mem_fadersOf.2 hf) ⟨rfl, hc⟩).2
  · by_cases hx : f = x
    · subst hx
      exact .inl (State.calibrateOne_cool h (cool_at hb)).1
    · obtain ⟨⟨claim, -⟩, -⟩ := State.calibrateOne_other hx (claimless h)
      rwa [claim]
  · by_cases hx : f = x
    · subst hx
      exact State.calibrateOne_cool (.inl hn) (cool_at hb)
    · obtain ⟨⟨claim, pending⟩, slot⟩ := State.calibrateOne_other hx (claimless (.inl hn))
      refine ⟨claim.trans hn, pending.trans hp, ?_⟩
      rcases hs with hs | hs <;> rw [hs] at slot
      · exact slot
      · exact .inr (or_self_iff.1 slot)

end answer

section one
variable {s : State} {f : FaderIx}

/-- The queue when one fader is taken: the place it had is left, the tail joined unless it is hot, and free slots go to the
head (R60, R81). -/
theorem State.calibrateOne_queue (hs : s.queueExact) :
    let t := s.calibrateOne f
    let joined := s.queue.filter (· ≠ f) ++ if s.heatOf f < s.settings.heatTrip then [f] else []
    ∃ k, t.queue = joined.drop k ∧ (k < joined.length → s.settings.budget ≤ t.holders.length) ∧
      (0 < k → t.holders.length ≤ s.settings.budget) := by
  intro t joined
  have led : SamePool (s.calTested f).grant t := .evalLead
  have exact_queue : (s.calTested f).queueExact := (KeepsQueue.calEntered.trans .tripTest) hs
  have queue : (s.calTested f).queue = joined := by
    rcases Nat.lt_or_ge (s.heatOf f) s.settings.heatTrip with cool | hot
    · rw [State.calTested_cool cool, State.calEntered_queue hs]
      simp only [joined, if_pos cool]
    · obtain ⟨-, -, -, -, -, queue, -⟩ := State.calTested_hot hot
      rw [queue, State.calEntered_queue hs]
      simp [joined, Nat.not_lt.2 hot]
  have settings : (s.calTested f).settings = s.settings := State.settings_of_base (s.base_calTested f)
  obtain ⟨k, -, granted, full, within⟩ := granted_grantAlong (s.calTested f).queue _ exact_queue rfl
  rw [settings, queue] at full within
  rw [led.queue, led.holders]
  refine ⟨k, ?_, ?_, ?_⟩
  · rw [← queue]; exact granted.queue
  · rw [State.grant, queue]; exact full
  · rw [State.grant, queue]; exact within

/-- A DIRECT claim has ended SUPERSEDED at the fader's position (R26, R27, R81). -/
theorem State.calibrateOne_direct (h : s.claimOf f = .direct) :
    let t := s.calibrateOne f
    t.targetOf f = s.posOf f ∧ t.holdOf f = s.posOf f ∧
      Notice.motion f .direct .superseded (s.posOf f) false ∈ t.notices := by
  intro t
  obtain ⟨record, kept⟩ := State.calibrateOne_record (.inr h)
  have told := State.calEntered_direct h
  rw [State.targetOf, State.holdOf, record]
  rcases Nat.lt_or_ge (s.heatOf f) s.settings.heatTrip with cool | hot
  · rw [State.calTested_cool cool] at kept ⊢
    rw [State.calEntered_fader, State.directEnded_fader, if_pos h]
    exact ⟨rfl, rfl, kept _ told _ rfl⟩
  · obtain ⟨-, -, -, target, hold, -, -, -, stays⟩ := State.calTested_hot hot
    exact ⟨target, hold, kept _ (stays _ told rfl) _ rfl⟩

/-- A cool fader is in CAL-WAIT while it stands in the queue, and in CAL-DOWN once it has left it (R60, R81). -/
theorem State.calibrateOne_stateOf (hs : s.queueExact) (hc : s.claimOf f = .none ∨ s.claimOf f = .direct)
    (cool : s.heatOf f < s.settings.heatTrip) : (s.calibrateOne f).stateOf f =
      .calibrating (if f ∈ (s.calibrateOne f).queue then .calWait else .calDown) := by
  have queued := ((State.KeepsPool.calibrateOne (f := f)).exact hs).2 f
  obtain ⟨-, -, slot⟩ := State.calibrateOne_cool hc cool
  rcases slot with slot | slot
  · rw [slot, if_pos (queued.2 (by rw [slot]; rfl))]
  · rw [slot, if_neg fun h => ?_]
    have waits := queued.1 h
    rw [slot] at waits
    cases waits

/-- A hot fader rests at its position, its calibration ended TIMEOUT (R65). -/
theorem State.calibrateOne_hot (hc : s.claimOf f = .none ∨ s.claimOf f = .direct)
    (hot : s.settings.heatTrip ≤ s.heatOf f) :
    let t := s.calibrateOne f
    t.stateOf f = .rest ∧ t.targetOf f = s.posOf f ∧ t.holdOf f = s.posOf f ∧
      Notice.cal f .timeout .calWait none none none ∈ t.notices ∧ Notice.rest f true .heat ∈ t.notices := by
  intro t
  obtain ⟨record, kept⟩ := State.calibrateOne_record hc
  obtain ⟨rests, -, -, target, hold, -, cal, rest, -⟩ := State.calTested_hot hot
  rw [State.stateOf, State.targetOf, State.holdOf, record]
  exact ⟨(State.stateOf_grant _ (by rw [rests]; rfl)).trans rests, target, hold, kept _ cal _ rfl, kept _ rest _ rfl⟩

end one

/-- Settles O16: the refusal by the first fader that meets a case, and the set taken fader by fader. -/
theorem calibrateIsTakenWholeOrRefusedWhole : Obligations.CalibrateIsTakenWholeOrRefusedWhole := by
  intro faders s hears
  have free_contact (h : ∀ f : FaderIx, faders.getLsbD f.val = true → s.calRefusal f = none) (f : FaderIx)
      (hf : faders.getLsbD f.val = true) : s.contact.calRefusal f = none := (s.contact_calRefusal f).trans (h f hf)
  refine ⟨fun none_named => ?_, fun f st hf hs first => ?_, fun named free => ?_, fun named free => ?_,
    fun f hs free => ?_, fun f => ?_⟩
  · rw [exec_calibrate hears, calibrateAct, if_pos none_named]
    rfl
  · have refused : s.contact.firstRefusal (fadersOf faders) = some (f, st) :=
      State.firstRefusal_of_first hf ((s.contact_calRefusal f).trans hs) fun f' below hf' =>
        (s.contact_calRefusal f').trans (first f' below hf')
    have named : faders ≠ 0#16 := by
      rintro rfl
      simp at hf
    rw [exec_calibrate hears, calibrateAct, if_neg named, refused]
  · obtain ⟨t, ht⟩ : ∃ t, t = s.contact.each (fadersOf faders) fun f s => s.calibrateOne f := ⟨_, rfl⟩
    have base : t.base = s.contact.base := by rw [ht, State.base_each _ fun f u => u.base_calibrateOne f]
    have given := calibrateAct_taken (s := s.contact) named (free_contact fun f hf => (free f hf).1)
    refine ⟨s.closed t .addressed 9 .accepted .none, by rw [exec_calibrate hears, given, ht]; rfl,
      State.closed_reply (State.link_of_base base) _ _ _, State.closed_base base _ _ _, fun f hf => ?_⟩
    have claim := State.calRefusal_none (free_contact (fun f hf => (free f hf).1) f hf)
    have cool : s.contact.heatOf f < s.contact.settings.heatTrip := by
      rw [State.heatOf, State.contact_fader, State.contact_settings]
      exact (free f hf).2
    have taken := State.calibrated_set hf claim cool
    rw [← ht] at taken
    exact taken
  · rw [exec_calibrate hears, calibrateAct_taken named (free_contact free)]
    rfl
  · intro t joined
    have claim := State.calRefusal_none free
    have record := (State.calibrateOne_record claim).1
    obtain ⟨unclaimed, pending⟩ := State.calTested_claimless claim
    have ended : t.claimOf f = .none ∧ (t.fader f).record.pendingCal = none := by
      rw [State.claimOf, record]
      exact ⟨unclaimed, pending⟩
    exact ⟨s.base_calibrateOne f, ended.1, ended.2, State.calibrateOne_queue hs, State.calibrateOne_direct,
      State.calibrateOne_stateOf hs claim, State.calibrateOne_hot claim⟩
  · unfold State.calRefusal
    cases s.stateOf f <;> cases s.claimOf f <;> rfl

end Sys2Proof.Machine
end

section
namespace Sys2Proof.Machine

/-! # A servo sample of a fader in any state -/

/-! ## What a sample leaves of a fader until its tests -/

/-- Claim, lane, calibration and fault items stand, and so does the state, but that a fader which takes claims may move on
among the states that do. -/
structure Fader.Carries (x y : Fader) : Prop where
  claim : y.record.claim = x.record.claim
  lane : y.lane = x.lane
  cal : y.cal = x.cal
  fault : y.fault = x.fault
  state : y.record.state = x.record.state ∨ x.record.state.takesClaims = true ∧ y.record.state.takesClaims = true

namespace Fader.Carries
variable {x y z : Fader}

theorem refl (x : Fader) : x.Carries x := ⟨rfl, rfl, rfl, rfl, .inl rfl⟩

theorem of_eq (h : y = x) : x.Carries y := h ▸ refl x

theorem trans (h : x.Carries y) (k : y.Carries z) : x.Carries z where
  claim := k.claim.trans h.claim
  lane := k.lane.trans h.lane
  cal := k.cal.trans h.cal
  fault := k.fault.trans h.fault
  state := by
    rcases h.state with e | ⟨hx, hy⟩
    · rw [← e]; exact k.state
    · rcases k.state with e | ⟨-, hz⟩
      · exact .inr ⟨hx, by rwa [e]⟩
      · exact .inr ⟨hx, hz⟩

/-- In a state that takes no claims the fader stays. -/
theorem stays (h : x.Carries y) (hx : x.record.state.takesClaims = false) : y.record.state = x.record.state :=
  h.state.resolve_right fun k => by rw [hx] at k; cases k.1

theorem finding_eq (h : x.Carries y) : y.record.state.finding = x.record.state.finding := by
  have open_loop {st : FaderState} (hs : st.takesClaims = true) : st.finding = false := by
    cases st with
    | calibrating p => cases hs
    | _ => rfl
  rcases h.state with e | ⟨hx, hy⟩
  · rw [e]
  · rw [open_loop hx, open_loop hy]

end Fader.Carries

section sensing
variable {s : State} {f : FaderIx}

/-- Entry to WAITING, with the trips and grants that follow (R16). -/
theorem State.enterWaiting_carries (q : Bool) (hs : (s.stateOf f).takesClaims = true) :
    (s.fader f).Carries ((s.enterWaiting f q).fader f) := by
  have takes := (State.Serves.enterWaiting (x := f) (f := f) s q fun _ => hs).takes hs
  obtain ⟨⟨st, m, e⟩, -⟩ := Shifts.enterWaiting (f := f) s q
  exact ⟨by rw [e], by rw [e], by rw [e], by rw [e], .inr ⟨hs, takes⟩⟩

theorem State.modRecord_carries {g : FaderRecord → FaderRecord} (hs : ∀ r, (g r).state = r.state)
    (hc : ∀ r, (g r).claim = r.claim) : (s.fader f).Carries ((s.modRecord f g).fader f) := by
  rw [State.modRecord_fader]
  exact ⟨hc _, rfl, rfl, rfl, .inl (hs _)⟩

theorem State.driftTest_carries (s : State) (f : FaderIx) : (s.fader f).Carries ((s.driftTest f).fader f) := by
  unfold State.driftTest
  split
  · rename_i h
    have parked : (s.modRecord f fun r => { r with target := r.hold, planned := none }).stateOf f = .parked := by
      rw [State.stateOf, State.modRecord_fader]
      exact h.1
    exact (State.modRecord_carries (by intro r; rfl) (by intro r; rfl)).trans
      (State.enterWaiting_carries false (by rw [parked]; rfl))
  · exact .refl _

theorem State.driftTest_groups (s : State) (f : FaderIx) : (s.driftTest f).groups = s.groups := by
  unfold State.driftTest State.enterWaiting State.tripTest
  split
  · split <;> simp
  · rfl

/-- A position change of a fader that is master of no group (R28, R36, R54). -/
theorem State.positionChange_carries (hm : s.masterOf f = none) :
    (s.fader f).Carries ((s.positionChange f).fader f) := by
  unfold State.positionChange
  extract_lets s1
  have held : (s.fader f).Carries (s1.fader f) ∧ s1.groups = s.groups := by
    unfold s1
    split
    · exact ⟨State.modRecord_carries (by intro r; rfl) (by intro r; rfl), rfl⟩
    · exact ⟨.refl _, rfl⟩
  have no_group : ((s1.moveTest f).driftTest f).masterOf f = none := by
    rw [State.masterOf_of_groups ((State.driftTest_groups _ f).trans (State.moveTest_groups s1 f)),
      State.masterOf_of_groups held.2, hm]
  have led : ((s1.moveTest f).driftTest f).followMaster f = (s1.moveTest f).driftTest f := by
    simp only [State.followMaster, no_group]
  rw [led]
  exact held.1.trans ((Fader.Carries.of_eq (State.moveTest_fader s1 f f)).trans (State.driftTest_carries _ f))

/-- The fault items with the track run ended and TRACK not current (R73). -/
def FaultItems.untracked (x : FaultItems) : FaultItems :=
  { x with trackRun := none, current := { x.current with track := false } }

/-- An ordinary reading: an IN-WINDOW one may end the track run, and nothing else of the fault items changes (R2 to R4,
R73). -/
theorem State.senseNext_carries (raw : Nat) (hm : s.masterOf f = none) :
    ∃ y : FaultItems, (y = (s.fader f).fault ∨
        ((s.senseNext f raw).fader f).track.cls = .inWindow ∧ y = (s.fader f).fault.untracked) ∧
      Fader.Carries { s.fader f with fault := y } ((s.senseNext f raw).fader f) := by
  unfold State.senseNext
  extract_lets old s1 s2
  have read : (s1.fader f) = { s.fader f with track := (s1.fader f).track } := by
    simp only [s1, State.modTrack_fader]
  obtain ⟨y, hy, cleared⟩ : ∃ y, (y = (s.fader f).fault ∨ (s2.fader f).track.cls = .inWindow ∧
      y = (s.fader f).fault.untracked) ∧ s2.fader f = { s1.fader f with fault := y } := by
    unfold s2
    split
    · rename_i h
      refine ⟨(s.fader f).fault.untracked, .inr ⟨?_, rfl⟩, ?_⟩
      · rw [State.modFault_fader]; exact h.1
      · rw [State.modFault_fader, read]; rfl
    · refine ⟨(s.fader f).fault, .inl rfl, ?_⟩
      rw [read]
  have sensed : Fader.Carries { s.fader f with fault := y } (s2.fader f) := by
    rw [cleared, read]
    exact ⟨rfl, rfl, rfl, rfl, .inl rfl⟩
  split
  · exact ⟨y, hy, sensed⟩
  · have groups : s2.groups = s.groups := by unfold s2; split <;> rfl
    refine ⟨y, ?_, sensed.trans (State.positionChange_carries ((State.masterOf_of_groups groups f).trans hm))⟩
    rwa [State.track_of_base (State.base_positionChange s2 f)]

theorem State.windowTest_carries (s : State) (f : FaderIx) : (s.fader f).Carries ((s.windowTest f).fader f) := by
  have moved (t : State) (st : FaderState) (g : Motion → Motion) (hs : (s.stateOf f).takesClaims = true)
      (ht : st.takesClaims = true) : (s.fader f).Carries (((s.goTo f st).modMotion f g).fader f) := by
    rw [State.modMotion_fader, State.goTo_fader]
    exact ⟨rfl, rfl, rfl, rfl, .inr ⟨hs, ht⟩⟩
  have counted (g : Motion → Motion) : (s.fader f).Carries ((s.modMotion f g).fader f) := by
    rw [State.modMotion_fader]
    exact ⟨rfl, rfl, rfl, rfl, .inl rfl⟩
  unfold State.windowTest
  split
  · rename_i h
    split
    · exact moved s _ _ (by rw [h]; rfl) rfl
    · exact .refl _
  · rename_i h
    split
    · exact counted _
    · exact moved s _ _ (by rw [h]; rfl) rfl
  · exact .refl _

/-- The motion part of an ordinary sample, in any state (R1 to R4, R41 to R50, R73). -/
theorem State.sampleMotion_carries (raw : BitVec 12) (o : s.Ordinary f) :
    ∃ y : FaultItems, (y = (s.fader f).fault ∨ ((s.sampleMotion f raw).fader f).track.cls = .inWindow ∧
        y = (s.fader f).fault.untracked) ∧
      Fader.Carries { s.fader f with fault := y } ((s.sampleMotion f raw).fader f) := by
  have open_window : s.closeFullWindow f = s := if_neg (Nat.not_le.2 o.window)
  have timed : (s.sampleTime f).fader f = { s.fader f with track := ((s.sampleTime f).fader f).track } := by
    rw [State.sampleTime, State.modTrack_fader]; rfl
  have later : ((s.sampleTime f).fader f).track.first = false := by
    rw [State.sampleTime, State.modTrack_fader]; exact o.first
  have next : s.sensed f raw = (s.sampleTime f).senseNext f raw.toNat := by
    rw [State.sensed, open_window, State.sense, later]; rfl
  obtain ⟨y, hy, sensed⟩ := State.senseNext_carries (s := s.sampleTime f) (f := f) raw.toNat o.master
  rw [← next, timed] at sensed
  rw [← next, timed] at hy
  have driven : ((s.sensed f raw).fader f).Carries (((s.sensed f raw).drives f).fader f) := by
    rw [State.drives_fader]
    exact ⟨rfl, rfl, rfl, rfl, .inl rfl⟩
  have tested := (sensed.trans driven).trans (State.windowTest_carries _ f)
  rw [← s.sampleMotion_eq] at tested
  refine ⟨y, ?_, ⟨tested.claim, tested.lane, tested.cal, tested.fault, tested.state⟩⟩
  rwa [s.sampleMotion_track]

theorem State.sampleMotion_recalls (raw : BitVec 12) (o : s.Ordinary f) : (s.sampleMotion f raw).recalls = s.recalls := by
  have open_window : s.closeFullWindow f = s := if_neg (Nat.not_le.2 o.window)
  have later : ((s.sampleTime f).fader f).track.first = false := by
    rw [State.sampleTime, State.modTrack_fader]; exact o.first
  rw [s.sampleMotion_eq, State.windowTest_recalls, State.drives_recalls, State.sensed, open_window, State.sense, later]
  exact State.senseNext_recalls _ _ _

theorem State.SamplesOnly.settings {t : State} (h : SamplesOnly f s t) : t.settings = s.settings :=
  (congrArg State.settings h.rest :)

theorem State.sampleMotion_settings (s : State) (f : FaderIx) (raw : BitVec 12) :
    (s.sampleMotion f raw).settings = s.settings := (s.sampleMotion_samplesOnly f raw).settings

theorem State.sampleMotion_raw (s : State) (f : FaderIx) (raw : BitVec 12) :
    ((s.sampleMotion f raw).fader f).track.raw = raw.toNat := by
  rw [s.sampleMotion_sensed, Track.sensed_raw]

end sensing

end Sys2Proof.Machine
end

section
namespace Sys2Proof.Machine

/-! # The phases of a calibration (R82 to R84) -/

section phases
variable {p : State} {f : FaderIx}

/-- A calibration's end leaves the recalls alone. -/
@[simp] theorem State.parkCalibrated_recalls (s : State) (f : FaderIx) : (s.parkCalibrated f).recalls = s.recalls := by
  simp [State.parkCalibrated, State.parkHere]

theorem State.calSample_recalls (s : State) (f : FaderIx) : (s.calSample f).recalls = s.recalls := by
  have up : (s.calUpEnds f).recalls = s.recalls := by
    unfold State.calUpEnds
    extract_lets high low s1 s2
    split <;> simp [s1, s2, State.setCal]
  have down : (s.calDownEnds f).recalls = s.recalls := by simp [State.calDownEnds, State.enterCalPhase, State.setCal]
  have late : (s.calTimeout f).recalls = s.recalls := by simp [State.calTimeout]
  unfold State.calSample
  split
  · split
    · exact down
    · split
      · exact late
      · rfl
  · split
    · exact up
    · split
      · exact late
      · rfl
  · rfl

/-- At a sample taken in CAL-DOWN or CAL-UP no TRACK test is made (R73): with OVERCURRENT inactive and no qualification for
STALL nothing latches. -/
theorem State.monitor_finding_onlyFaults {s : State} (hq : (s.fader f).stallQualifies = false) :
    OnlyFaults f s (s.monitor f false true) := by
  have stall : OnlyFaults f s (s.stallSample f) := s.onlyFaults_tested f _ .stall (stallTest_not_current _ _ (.inl hq))
  exact stall.trans (State.onlyFaults_tested _ f _ .overcurrent rfl)

theorem State.OnlyFaults.record {s t : State} (h : OnlyFaults f s t) : (t.fader f).record = (s.fader f).record := by
  obtain ⟨y, e⟩ := h.fader
  rw [e]
theorem State.OnlyFaults.motion {s t : State} (h : OnlyFaults f s t) : (t.fader f).motion = (s.fader f).motion := by
  obtain ⟨y, e⟩ := h.fader
  rw [e]
theorem State.OnlyFaults.cal {s t : State} (h : OnlyFaults f s t) : (t.fader f).cal = (s.fader f).cal := by
  obtain ⟨y, e⟩ := h.fader
  rw [e]

/-- The end of a sample in CAL-DOWN or CAL-UP: the Calibration Sequencer acts, and nothing but fault items follows. -/
theorem State.sampleEnds_finding (hf : (p.stateOf f).finding = true) (hr : p.recalls = [])
    (hs : ¬((p.calSample f).stateOf f).servoed) : OnlyFaults f (p.calSample f) (p.sampleEnds f false false) := by
  have settle : p.stateOf f ≠ .settle := by intro e; rw [e] at hf; cases hf
  have idle : ((p.calSample f).fader f).stallQualifies = false := by
    have travel : ((p.calSample f).fader f).record.state ≠ .travel := fun e => hs (.inl e)
    have settle : ((p.calSample f).fader f).record.state ≠ .settle := fun e => hs (.inr e)
    simp [Fader.stallQualifies, travel, settle]
  have quiet := State.monitor_finding_onlyFaults idle
  have none_queued : ((p.calSample f).monitor f false true).recalls = [] := by
    rw [quiet.recalls, State.calSample_recalls, hr]
  rw [State.sampleEnds_eq, State.arriveIfDue_other settle, hf,
    State.settleRecalls_open fun r h => by rw [none_queued] at h; cases h]
  exact quiet

/-- A notice on the fader that is not MOVE stays pending when its calibration ends and it parks. -/
theorem State.mem_parkCalibrated {s : State} {n : Notice} {k : FaderNotice} (hn : n ∈ s.notices)
    (hk : n.key = .fader f k) (hm : k ≠ .move) : n ∈ (s.parkCalibrated f).notices := by
  obtain ⟨u, hu⟩ : ∃ u, u = ((s.goTo f .parked).clearClaim f).holdHere f := ⟨_, rfl⟩
  have ends : s.parkCalibrated f = ((u.moveTest f).evalLead f).grant := by rw [hu]; rfl
  have record : ((u.moveTest f).fader f).record.claim = .none ∧ ((u.moveTest f).fader f).record.state = .parked := by
    simp [hu, State.goTo_fader]
  have spared : Spares f (u.moveTest f) (s.parkCalibrated f) := by
    rw [ends]
    exact .evalLead_grant f (.inl (by rw [State.claimOf, record.1]; rfl)) (by rw [State.stateOf, record.2]; rfl)
  refine spared.notices n (State.mem_moveTest ?_ fun e => hm (NoticeKey.fader.inj (hk ▸ e)).2) k hk
  rw [hu, State.holdHere_notices, State.clearClaim_notices, State.goTo_notices]
  exact hn

/-- A calibration ended and the fader parked (R36, R87): the calibration items are discarded, and the CAL notice bears the
phase and the captured values. -/
theorem State.endCalibration_parked {s : State} {q : CalPhase} {c : CalRun} (hs : s.stateOf f = .calibrating q)
    (hc : (s.fader f).cal = some c) (o : CalOutcome) (n : Option Int) :
    let t := (s.endCalibration f o n).parkCalibrated f
    t.stateOf f = .parked ∧ t.claimOf f = .none ∧ (t.fader f).cal = none ∧
      Notice.cal f o q c.low c.high n ∈ t.notices := by
  intro t
  have ended : s.endCalibration f o n = ((s.raise (.cal f o q c.low c.high n)).setCal f none).modRecord f
      fun r => { r with pendingCal := none } := by
    simp [State.endCalibration, hs, hc, FaderState.phase]
  have told : Notice.cal f o q c.low c.high n ∈ (s.endCalibration f o n).notices := by
    rw [ended]
    exact mem_raiseInto _ _ nofun
  rw [State.stateOf, State.claimOf, State.parkCalibrated_fader]
  refine ⟨rfl, rfl, ?_, State.mem_parkCalibrated told rfl nofun⟩
  simp [ended]

/-- The down phase ends: the captured low is the reading, and CAL-UP begins at +35 % (R82). -/
theorem State.calDownEnds_fader (p : State) (f : FaderIx) : (p.calDownEnds f).fader f = { p.fader f with
    record := { (p.fader f).record with state := .calibrating .calUp }
    motion := { (p.fader f).motion with drive := 35 }
    cal := (p.fader f).cal.map fun c => { c with
      low := some (p.fader f).track.raw, timing := some ⟨p.now, (p.fader f).track.raw, p.now⟩ } } := by
  simp only [State.calDownEnds, State.setCal_fader, State.enterCalPhase_fader p f (p := .calUp) rfl]
  rfl

/-- The captured high is the reading, and no timed items remain (R83). -/
def State.calCaptured (p : State) (f : FaderIx) : State :=
  p.setCal f ((p.fader f).cal.map fun c => { c with high := some (p.fader f).track.raw, timing := none })

/-- The result of a calibration pending review, with READY (R83). -/
def State.calReviewed (p : State) (f : FaderIx) (low high : Nat) : State :=
  (((p.calCaptured f).goTo f (.calibrating .calReview)).modRecord f fun r =>
    { r with pendingCal := some ⟨low, high, calSpan low high⟩ }).raise
      (.cal f .ready .calUp (some low) (some high) (some (calSpan low high)))

/-- The up phase ends with review or, where the span is below 2400, BAD-SPAN (R83). -/
theorem State.calUpEnds_eq {low : Nat} (hl : (p.fader f).cal.bind (·.low) = some low) : p.calUpEnds f =
    if 2400 ≤ calSpan low (p.fader f).track.raw then (p.calReviewed f low (p.fader f).track.raw).grant
    else ((p.calCaptured f).endCalibration f .badSpan (some (calSpan low (p.fader f).track.raw))).parkCalibrated f := by
  simp only [State.calUpEnds, hl, Option.getD_some]
  rfl

theorem le_calSpan {low high : Nat} : 2400 ≤ calSpan low high ↔ 2400 + low ≤ high := by
  unfold calSpan
  omega

/-- The up phase ends with a span of 2400 or more: review, with READY (R83). -/
theorem State.calUpEnds_ready {c : CalRun} {low : Nat} (hc : (p.fader f).cal = some c) (hl : c.low = some low)
    (span : 2400 + low ≤ (p.fader f).track.raw) :
    let t := p.calUpEnds f
    let high := (p.fader f).track.raw
    t.stateOf f = .calibrating .calReview ∧
      (t.fader f).record.pendingCal = some ⟨low, high, (high : Int) - low⟩ ∧
      Notice.cal f .ready .calUp (some low) (some high) (some ((high : Int) - low)) ∈ t.notices := by
  intro t high
  have ends : t = (p.calReviewed f low high).grant := by
    unfold t
    rw [State.calUpEnds_eq (by rw [hc]; exact hl), if_pos (le_calSpan.2 span)]
  have record : ((p.calReviewed f low high).fader f).record.state = .calibrating .calReview ∧
      ((p.calReviewed f low high).fader f).record.pendingCal = some ⟨low, high, calSpan low high⟩ := by
    simp [State.calReviewed, State.goTo_fader]
  have stays := (Spares.grant (f := f) (p.calReviewed f low high) (by rw [State.stateOf, record.1]; rfl)).fader
  rw [ends, State.stateOf, stays, State.grant_notices]
  exact ⟨record.1, record.2, mem_raiseInto _ _ nofun⟩

/-- The up phase ends with a smaller span: BAD-SPAN, and the fader parks (R83). -/
theorem State.calUpEnds_badSpan {c : CalRun} {low : Nat} (hs : p.stateOf f = .calibrating .calUp)
    (hc : (p.fader f).cal = some c) (hl : c.low = some low) (span : (p.fader f).track.raw < 2400 + low) :
    let t := p.calUpEnds f
    let high := (p.fader f).track.raw
    t.stateOf f = .parked ∧ t.claimOf f = .none ∧ (t.fader f).cal = none ∧
      Notice.cal f .badSpan .calUp (some low) (some high) (some ((high : Int) - low)) ∈ t.notices := by
  intro t high
  have up : (p.calCaptured f).stateOf f = .calibrating .calUp := by
    rw [State.stateOf, State.calCaptured, State.setCal_fader]; exact hs
  have cal : ((p.calCaptured f).fader f).cal = some { c with high := some high, timing := none } := by
    rw [State.calCaptured, State.setCal_fader, hc]; rfl
  have parked := State.endCalibration_parked up cal .badSpan (some (calSpan low high))
  rw [hl] at parked
  unfold t
  rw [State.calUpEnds_eq (by rw [hc]; exact hl), if_neg fun h => Nat.not_le.2 span (le_calSpan.1 h)]
  exact parked

end phases

/-! ## The phases at a sample -/

section commands
variable {s : State} {f : FaderIx} {raw : BitVec 12} {c : CalRun} {x : CalTiming} {q : CalPhase}

/-- The stop test at a sample taken at time `now` (R82). -/
def CalTiming.stoppedAt (x : CalTiming) (raw : Nat) (now : Time) : Prop :=
  dist raw x.stopReference < 8 ∧ x.stopStart + 480 ≤ now

/-- A sample in a calibration phase, as far as the Calibration Sequencer, has left state, calibration items and recalls as
they were; the two tests are those of R82 and R84 at the sample's reading and time. -/
structure State.SampledIn (s p : State) (f : FaderIx) (q : CalPhase) (c : CalRun) (x : CalTiming) (raw : Nat) : Prop where
  state : p.stateOf f = .calibrating q
  cal : (p.fader f).cal = some c
  recalls : p.recalls = s.recalls
  reading : (p.fader f).track.raw = raw
  now : p.now = s.sampleAt f
  stops : p.calStopped f = true ↔ x.stoppedAt raw (s.sampleAt f)
  times : p.calTimedOut f = true ↔ x.phaseStart + 18000 < s.sampleAt f

theorem State.sampleMotion_calibrating (o : s.Ordinary f) (hs : s.stateOf f = .calibrating q)
    (hc : (s.fader f).cal = some c) (hx : c.timing = some x) :
    s.SampledIn (s.sampleMotion f raw) f q c x raw.toNat := by
  obtain ⟨p, hp⟩ : ∃ p, p = s.sampleMotion f raw := ⟨_, rfl⟩
  obtain ⟨y, -, carried⟩ := State.sampleMotion_carries raw o
  rw [← hp] at carried ⊢
  have state : p.stateOf f = .calibrating q := (carried.stays (congrArg FaderState.takesClaims hs)).trans hs
  have cal : (p.fader f).cal = some c := carried.cal.trans hc
  have timing : (p.fader f).cal.bind (·.timing) = some x := by rw [cal]; exact hx
  have now : p.now = s.sampleAt f := hp ▸ s.sampleMotion_now f raw
  have reads : (p.fader f).track.raw = raw.toNat := hp ▸ s.sampleMotion_raw f raw
  refine ⟨state, cal, hp ▸ State.sampleMotion_recalls raw o, reads, now, ?_, ?_⟩
  · rw [State.calStopped, timing, reads, now, Bool.and_eq_true, decide_eq_true_iff, decide_eq_true_iff]
    rfl
  · rw [State.calTimedOut, timing, now, decide_eq_true_iff]
    rfl

/-- The end of an ordinary sample in CAL-DOWN or CAL-UP with no recall queued: the fader is left as the Calibration Sequencer
leaves it, but for fault items, with its notices; the settings stand. -/
theorem State.calibration_sample (o : s.Ordinary f) (hr : s.recalls = [])
    (hs : s.stateOf f = .calibrating q) (hq : q = .calDown ∨ q = .calUp) (hc : (s.fader f).cal = some c)
    (hx : c.timing = some x) (left : ¬(((s.sampleMotion f raw).calSample f).stateOf f).servoed) :
    ((s.sampleMotion f raw).sampleEnds f false false).settings = s.settings ∧
      OnlyFaults f ((s.sampleMotion f raw).calSample f) ((s.sampleMotion f raw).sampleEnds f false false) := by
  have sampled := State.sampleMotion_calibrating (raw := raw) o hs hc hx
  have finding : ((s.sampleMotion f raw).stateOf f).finding = true := by
    rw [sampled.state]
    rcases hq with rfl | rfl <;> rfl
  refine ⟨?_, State.sampleEnds_finding finding (sampled.recalls.trans hr) left⟩
  rw [State.settings_of_base (State.base_sampleEnds _ f false false), s.sampleMotion_settings]

end commands

end Sys2Proof.Machine
end

section
namespace Sys2Proof.Machine

/-! ## The ends of the phases as commands (log entry 12) -/

section commands
variable {s : State} {f : FaderIx} {raw : BitVec 12} {c : CalRun} {x : CalTiming} {q : CalPhase}

theorem exec_calDownStop (ready : s.part = .ready) (hs : (s.sampleMotion f raw).stateOf f = .calibrating .calDown)
    (stopped : (s.sampleMotion f raw).calStopped f = true) (active : Bool) :
    exec (.calDownStop f raw active) s = .next ((s.sampleMotion f raw).sampleEnds f active false) := by
  change Host.Outcome.next (if _ then _ else s) = _
  exact congrArg _ (if_pos ⟨ready, hs, stopped⟩)
theorem exec_calUpStop (ready : s.part = .ready) (hs : (s.sampleMotion f raw).stateOf f = .calibrating .calUp)
    (stopped : (s.sampleMotion f raw).calStopped f = true) (active : Bool) :
    exec (.calUpStop f raw active) s = .next ((s.sampleMotion f raw).sampleEnds f active false) := by
  change Host.Outcome.next (if _ then _ else s) = _
  exact congrArg _ (if_pos ⟨ready, hs, stopped⟩)
theorem exec_calPhaseTimeout (ready : s.part = .ready) (hs : ((s.sampleMotion f raw).stateOf f).finding = true)
    (moves : (s.sampleMotion f raw).calStopped f = false) (late : (s.sampleMotion f raw).calTimedOut f = true)
    (active : Bool) :
    exec (.calPhaseTimeout f raw active) s = .next ((s.sampleMotion f raw).sampleEnds f active false) := by
  change Host.Outcome.next (if _ then _ else s) = _
  exact congrArg _ (if_pos ⟨ready, hs, moves, late⟩)

/-- R82: the stop test ends CAL-DOWN at this sample. -/
theorem State.calDown_stops (ready : s.part = .ready) (o : s.Ordinary f) (hr : s.recalls = [])
    (hs : s.stateOf f = .calibrating .calDown) (hc : (s.fader f).cal = some c) (hx : c.timing = some x)
    (stopped : x.stoppedAt raw.toNat (s.sampleAt f)) :
    ∃ t, exec (.calDownStop f raw false) s = .next t ∧ exec (.servoSample f raw false) s = .next t ∧
      t.stateOf f = .calibrating .calUp ∧ (t.fader f).motion.drive = 35 ∧
      (t.fader f).cal = some { c with low := some raw.toNat, timing := some ⟨s.sampleAt f, raw.toNat, s.sampleAt f⟩ } ∧
      t.settings = s.settings := by
  have sampled := State.sampleMotion_calibrating (raw := raw) o hs hc hx
  have ends : (s.sampleMotion f raw).calSample f = (s.sampleMotion f raw).calDownEnds f := by
    simp only [State.calSample, sampled.state, sampled.stops.2 stopped, if_true]
  have fader := State.calDownEnds_fader (s.sampleMotion f raw) f
  have up : ((s.sampleMotion f raw).calDownEnds f).stateOf f = .calibrating .calUp := by rw [State.stateOf, fader]
  obtain ⟨settings, faults⟩ := State.calibration_sample (raw := raw) o hr hs (.inl rfl) hc hx
    (by rw [ends, up]; rintro (h | h) <;> cases h)
  refine ⟨_, exec_calDownStop ready sampled.state (sampled.stops.2 stopped) false, exec_servoSample ready f raw false, ?_⟩
  rw [State.stateOf, faults.record, faults.motion, faults.cal, ends, fader, sampled.cal, sampled.reading, sampled.now]
  exact ⟨rfl, rfl, rfl, settings⟩

/-- R83: the stop test ends CAL-UP at this sample. -/
theorem State.calUp_stops {low : Nat} (ready : s.part = .ready) (o : s.Ordinary f) (hr : s.recalls = [])
    (hs : s.stateOf f = .calibrating .calUp) (hc : (s.fader f).cal = some c) (hx : c.timing = some x)
    (stopped : x.stoppedAt raw.toNat (s.sampleAt f)) (hl : c.low = some low) :
    ∃ t, exec (.calUpStop f raw false) s = .next t ∧ exec (.servoSample f raw false) s = .next t ∧
      t.settings = s.settings ∧
      (2400 + low ≤ raw.toNat → t.stateOf f = .calibrating .calReview ∧
        (t.fader f).record.pendingCal = some ⟨low, raw.toNat, (raw.toNat : Int) - low⟩ ∧
        Notice.cal f .ready .calUp (some low) (some raw.toNat) (some ((raw.toNat : Int) - low)) ∈ t.notices) ∧
      (raw.toNat < 2400 + low → t.stateOf f = .parked ∧ t.claimOf f = .none ∧ (t.fader f).cal = none ∧
        Notice.cal f .badSpan .calUp (some low) (some raw.toNat) (some ((raw.toNat : Int) - low)) ∈ t.notices) := by
  have sampled := State.sampleMotion_calibrating (raw := raw) o hs hc hx
  have ends : (s.sampleMotion f raw).calSample f = (s.sampleMotion f raw).calUpEnds f := by
    simp only [State.calSample, sampled.state, sampled.stops.2 stopped, if_true]
  have wide := State.calUpEnds_ready sampled.cal hl
  have narrow := State.calUpEnds_badSpan sampled.state sampled.cal hl
  rw [sampled.reading] at wide narrow
  have left : ¬(((s.sampleMotion f raw).calSample f).stateOf f).servoed := by
    rw [ends]
    rcases Nat.lt_or_ge raw.toNat (2400 + low) with h | h
    · rw [(narrow h).1]; rintro (h | h) <;> cases h
    · rw [(wide h).1]; rintro (h | h) <;> cases h
  obtain ⟨settings, faults⟩ := State.calibration_sample (raw := raw) o hr hs (.inr rfl) hc hx left
  refine ⟨_, exec_calUpStop ready sampled.state (sampled.stops.2 stopped) false, exec_servoSample ready f raw false,
    settings, fun h => ?_, fun h => ?_⟩
  · rw [State.stateOf, faults.record, faults.notices, ends]
    exact wide h
  · rw [State.stateOf, State.claimOf, faults.record, faults.cal, faults.notices, ends]
    exact narrow h

/-- R84: the time of a phase runs out at this sample, and no stop is found. -/
theorem State.calPhase_timesOut (ready : s.part = .ready) (o : s.Ordinary f) (hr : s.recalls = [])
    (hs : s.stateOf f = .calibrating q) (hq : q = .calDown ∨ q = .calUp) (hc : (s.fader f).cal = some c)
    (hx : c.timing = some x) (moves : ¬x.stoppedAt raw.toNat (s.sampleAt f))
    (late : x.phaseStart + 18000 < s.sampleAt f) :
    ∃ t, exec (.calPhaseTimeout f raw false) s = .next t ∧ exec (.servoSample f raw false) s = .next t ∧
      t.stateOf f = .parked ∧ t.claimOf f = .none ∧ (t.fader f).cal = none ∧ t.settings = s.settings ∧
      Notice.cal f .timeout q c.low c.high none ∈ t.notices := by
  have sampled := State.sampleMotion_calibrating (raw := raw) o hs hc hx
  have stop : (s.sampleMotion f raw).calStopped f = false := Bool.eq_false_iff.2 fun h => moves (sampled.stops.1 h)
  have ends : (s.sampleMotion f raw).calSample f =
      ((s.sampleMotion f raw).endCalibration f .timeout none).parkCalibrated f := by
    rcases hq with rfl | rfl <;>
      simp only [State.calSample, sampled.state, stop, sampled.times.2 late, Bool.false_eq_true, if_false, if_true,
        State.calTimeout]
  have finding : ((s.sampleMotion f raw).stateOf f).finding = true := by
    rw [sampled.state]
    rcases hq with rfl | rfl <;> rfl
  obtain ⟨parked, claim, discarded, told⟩ := State.endCalibration_parked sampled.state sampled.cal .timeout none
  obtain ⟨settings, faults⟩ := State.calibration_sample (raw := raw) o hr hs hq hc hx
    (by rw [ends, parked]; rintro (h | h) <;> cases h)
  refine ⟨_, exec_calPhaseTimeout ready finding stop (sampled.times.2 late) false, exec_servoSample ready f raw false, ?_⟩
  rw [State.stateOf, State.claimOf, faults.record, faults.cal, faults.notices, ends]
  exact ⟨parked, claim, discarded, settings, told⟩

end commands

/-- Settles O41: the sample at which a phase ends, by its stop test or by time. -/
theorem calibrationPhasesEndByStopOrTime : Obligations.CalibrationPhasesEndByStopOrTime := by
  intro f raw c x s ready window first master none_queued cal timing now stopped
  have o : s.Ordinary f := ⟨window, first, master⟩
  exact ⟨fun stop down => State.calDown_stops ready o none_queued down cal timing stop,
    fun stop up low captured => State.calUp_stops ready o none_queued up cal timing stop captured,
    fun moves late p state phase => State.calPhase_timesOut ready o none_queued state phase cal timing moves late⟩

end Sys2Proof.Machine
end

section
namespace Sys2Proof.Machine

/-! # What leaves the fault items of a fader alone

The Fault Monitor writes them at a sample and at a latch. Everything else leaves them, but that a slot granted in CAL-WAIT
ends TRACK and its run (R73); and the pending FAULT notice stays. -/

/-- From `s` to `t` no fault item of `f` is written but the track run and TRACK, and those too only in CAL-WAIT, which no
fader enters; a FAULT notice of `f` stays pending. -/
structure State.KeepsFaults (f : FaderIx) (s t : State) : Prop where
  items : ∃ r b, (t.fader f).fault =
    { (s.fader f).fault with trackRun := r, current := { (s.fader f).fault.current with track := b } }
  stands : s.stateOf f ≠ .calibrating .calWait →
    t.stateOf f ≠ .calibrating .calWait ∧ (t.fader f).fault = (s.fader f).fault
  notices : ∀ n ∈ s.notices, n.key = .fader f .fault → n ∈ t.notices

/-- A slot granted in CAL-WAIT ends TRACK and its run (R73). -/
theorem State.grantTo_fault_calWait {s : State} {f : FaderIx} (h : s.stateOf f = .calibrating .calWait) :
    ((s.grantTo f).fader f).fault = (s.fader f).fault.untracked := by
  have h' : (s.leaveQueue f).stateOf f = .calibrating .calWait := h
  simp only [State.grantTo, h', State.setCal_fader, State.modFault_fader, State.fader_leaveQueue,
    State.enterCalPhase_fader _ f (p := .calDown) rfl]
  rfl

namespace State.KeepsFaults
variable {f x : FaderIx} {s t u : State}

theorem trans (h : KeepsFaults f s t) (k : KeepsFaults f t u) : KeepsFaults f s u where
  items := by
    obtain ⟨r, b, e⟩ := h.items
    obtain ⟨r', b', e'⟩ := k.items
    exact ⟨r', b', by rw [e', e]⟩
  stands hs := by
    obtain ⟨ht, e⟩ := h.stands hs
    obtain ⟨hu, e'⟩ := k.stands ht
    exact ⟨hu, e'.trans e⟩
  notices n hn hk := k.notices n (h.notices n hn hk) hk

/-- The fault items are not written. -/
theorem of_fault (hf : (t.fader f).fault = (s.fader f).fault)
    (hs : s.stateOf f ≠ .calibrating .calWait → t.stateOf f ≠ .calibrating .calWait)
    (hn : ∀ n ∈ s.notices, n.key = .fader f .fault → n ∈ t.notices) : KeepsFaults f s t :=
  ⟨⟨_, _, hf⟩, fun h => ⟨hs h, hf⟩, hn⟩

theorem refl (f : FaderIx) (s : State) : KeepsFaults f s s := of_fault rfl id fun _ h _ => h

theorem of_spares (h : Spares f s t) : KeepsFaults f s t :=
  of_fault (by rw [h.fader]) (by rw [State.stateOf, State.stateOf, h.fader]; exact id) fun n hn hk => h.notices n hn _ hk

theorem ite {c : Prop} [Decidable c] (ht : c → KeepsFaults f s t) (hu : ¬c → KeepsFaults f s u) :
    KeepsFaults f s (if c then t else u) := by
  split
  · exact ht ‹_›
  · exact hu ‹_›

theorem incase {c : Prop} [Decidable c] (h : KeepsFaults f s t) : KeepsFaults f s (if c then t else s) :=
  ite (fun _ => h) fun _ => refl f s

theorem otherwise {c : Prop} [Decidable c] (h : KeepsFaults f s t) : KeepsFaults f s (if c then s else t) :=
  ite (fun _ => refl f s) fun _ => h

theorem each {g : FaderIx → State → State} (h : ∀ m t, KeepsFaults f t (g m t)) {l : List FaderIx} :
    KeepsFaults f s (s.each l g) :=
  State.each_keeps (P := KeepsFaults f s) (fun m t ht => ht.trans (h m t)) l (refl f s)

/-! ## Primitive updates -/

theorem modFader {g : Fader → Fader} (hf : ∀ y, (g y).fault = y.fault) (hs : ∀ y, (g y).record.state = y.record.state) :
    KeepsFaults f s (s.modFader x g) := by
  refine of_fault ?_ ?_ fun _ h _ => h
  · rw [s.fader_modFader_ite]
    split
    · rw [hf, ‹f = x›]
    · rfl
  · rw [State.stateOf, State.stateOf, s.fader_modFader_ite]
    split
    · rw [hs, ‹f = x›]
      exact id
    · exact id

theorem modRecord {g : FaderRecord → FaderRecord} (h : ∀ r, (g r).state = r.state := by intro r; rfl) :
    KeepsFaults f s (s.modRecord x g) := modFader (fun _ => rfl) fun y => h y.record
theorem modMotion {g : Motion → Motion} : KeepsFaults f s (s.modMotion x g) := modFader (fun _ => rfl) fun _ => rfl
theorem modLane {g : Lane → Lane} : KeepsFaults f s (s.modLane x g) := modFader (fun _ => rfl) fun _ => rfl
theorem setCal {c : Option CalRun} : KeepsFaults f s (s.setCal x c) := modFader (fun _ => rfl) fun _ => rfl
theorem recalls {l : List Recall} : KeepsFaults f s { s with recalls := l } := of_fault rfl id fun _ h _ => h

theorem raise {n : Notice} (h : n.key ≠ .fader f .fault := by nofun) : KeepsFaults f s (s.raise n) :=
  of_fault rfl id fun _ hm hk => mem_raiseInto_of_ne hm fun e => h (e.symm.trans hk)

/-- A transition into a state other than CAL-WAIT. -/
theorem goTo {st : FaderState} (h : st ≠ .calibrating .calWait := by nofun) : KeepsFaults f s (s.goTo x st) := by
  by_cases hx : f = x
  · subst hx
    refine of_fault (by rw [State.goTo_fader]) (fun _ => by rwa [State.goTo_stateOf]) fun n hn _ => ?_
    rwa [State.goTo_notices]
  · exact of_spares (.goTo s st hx)

/-! ## The Group Follower, Fader Control and the Lane Engine -/

theorem moveTest : KeepsFaults f s (s.moveTest x) := incase raise
theorem entryTest {q : Bool} : KeepsFaults f s (s.entryTest x q) := otherwise moveTest
theorem claimEnded {c : Claim} : KeepsFaults f s (s.claimEnded x c) := of_spares (.claimEnded s x c)
theorem clearClaim : KeepsFaults f s (s.clearClaim x) := modRecord
theorem holdHere : KeepsFaults f s (s.holdHere x) := modRecord
theorem layRamp {n : Nat} : KeepsFaults f s (s.layRamp x n) := by
  unfold State.layRamp State.layRampFor
  exact modMotion
theorem writeOutcome {tag i : Nat} {o : Outcome} : KeepsFaults f s (s.writeOutcome tag i o) :=
  of_spares (.writeOutcome s tag i o)

theorem reportEnd {o : Outcome} : KeepsFaults f s (s.reportEnd x o) := by
  unfold State.reportEnd
  split
  · exact refl f s
  · exact raise
  · exact writeOutcome
  · exact refl f s
  · exact incase raise

theorem disableLane {r : Option LaneReason} : KeepsFaults f s (s.disableLane x r) := by
  unfold State.disableLane
  refine incase ?_
  cases r with
  | none => exact modLane
  | some r => exact modLane.trans raise

theorem evalLead : KeepsFaults f s (s.evalLead x) := by
  have setGroup (t : State) (g : GroupIx) (r : Option Group) (h : KeepsFaults f s t) :
      KeepsFaults f s (t.setGroup g r) := h.trans (of_fault rfl id fun _ h _ => h)
  have member (t : State) (g : GroupIx) (m : FaderIx) (h : KeepsFaults f s t) :
      KeepsFaults f s (t.memberLeadEnd g m) := by
    unfold State.memberLeadEnd
    exact h.trans (incase (((reportEnd.trans clearClaim).trans modRecord).trans claimEnded))
  exact State.evalLead_keeps (P := KeepsFaults f s) x (refl f s) setGroup member

theorem endCalibration {o : CalOutcome} {n : Option Int} : KeepsFaults f s (s.endCalibration x o n) := by
  unfold State.endCalibration
  split
  · exact refl f s
  · exact (trans raise setCal).trans modRecord

/-! ## Slots, trips and admission -/

theorem grantTo : KeepsFaults f s (s.grantTo x) := by
  by_cases hq : (s.stateOf f).queued = true
  case neg => exact of_spares (.grantTo s x (Bool.eq_false_iff.2 hq))
  have kept : ∀ n ∈ s.notices, n.key = .fader f .fault → n ∈ (s.grantTo x).notices := fun n hn _ => by
    rwa [State.grantTo_notices]
  by_cases hx : f = x
  case neg =>
    have same := s.grantTo_fader_ne hx
    exact of_fault (by rw [same]) (by rw [State.stateOf, State.stateOf, same]; exact id) kept
  subst hx
  rcases FaderState.queued_iff.1 hq with hs | hs
  · obtain ⟨m, -, e⟩ := s.grantTo_waiting hs
    exact of_fault (by rw [e]) (fun _ => by rw [State.stateOf, e]; nofun) kept
  · exact ⟨⟨none, false, State.grantTo_fault_calWait hs⟩, fun h => absurd hs h, kept⟩

theorem grantAlong (l : List FaderIx) (s : State) : KeepsFaults f s (Machine.grantAlong l s) := by
  induction l generalizing s with
  | nil => exact refl f s
  | cons x l ih =>
    unfold Machine.grantAlong
    exact incase (grantTo.trans (ih _))

theorem grant : KeepsFaults f s s.grant := grantAlong _ s

theorem tripTest {q : Bool} : KeepsFaults f s (s.tripTest x q) := by
  unfold State.tripTest State.trip
  refine incase (incase (ite (fun _ => ?_) fun _ => ?_))
  · exact (trans goTo entryTest).trans raise
  · exact ((((endCalibration.trans goTo).trans clearClaim).trans holdHere).trans entryTest).trans raise

theorem enterWaiting {q : Bool} : KeepsFaults f s (s.enterWaiting x q) :=
  ((trans goTo entryTest).trans tripTest).trans grant

theorem evalLead_grant : KeepsFaults f s ((s.evalLead x).grant) := evalLead.trans grant

/-! ## Arrivals and claims taken -/

theorem resolveArrival : KeepsFaults f s (s.resolveArrival x) := by
  unfold State.resolveArrival
  extract_lets s1
  have unplanned : KeepsFaults f s s1 := modRecord
  refine unplanned.trans ?_
  split
  · exact refl f s1
  · exact (reportEnd.trans clearClaim).trans claimEnded
  · exact (writeOutcome.trans clearClaim).trans claimEnded
  · exact refl f s1
  · exact otherwise ((reportEnd.trans clearClaim).trans claimEnded)

theorem arrive : KeepsFaults f s (s.arrive x) := by
  unfold State.arrive
  exact (((trans goTo modRecord).trans resolveArrival).trans entryTest).trans evalLead_grant

theorem arriveAtOnce {p : Nat} {q : Bool} : KeepsFaults f s (s.arriveAtOnce x p q) := by
  unfold State.arriveAtOnce
  extract_lets enters s1 s2 quiet s3
  have aimed : KeepsFaults f s s1 := modRecord
  have parks : KeepsFaults f s1 s2 := incase goTo
  have resolved : KeepsFaults f s2 s3 := resolveArrival
  exact (((aimed.trans parks).trans resolved).trans (incase entryTest)).trans grant

theorem seek {p : Nat} {q : Bool} : KeepsFaults f s (s.seek x p q) := by
  unfold State.seek
  extract_lets s1
  have aimed : KeepsFaults f s s1 := modRecord
  refine aimed.trans ?_
  split
  · exact enterWaiting
  · exact layRamp
  · exact trans goTo layRamp
  · exact refl f s1

theorem takeClaim {c : Claim} {p : Nat} {planned deadline expiry : Option Time} :
    KeepsFaults f s (s.takeClaim x c p planned deadline expiry) := by
  unfold State.takeClaim
  extract_lets old s1 s2 s3 quiet s4 s5
  have ends : KeepsFaults f s s1 := ite (fun _ => disableLane) fun _ => reportEnd
  have holds : KeepsFaults f s1 s2 := otherwise modRecord
  have claims : KeepsFaults f s2 s3 := modRecord
  have moves : KeepsFaults f s3 s4 := ite (fun _ => arriveAtOnce) fun _ => seek
  have told : KeepsFaults f s4 s5 := otherwise claimEnded
  exact ((((ends.trans holds).trans claims).trans moves).trans told).trans evalLead

/-! ## The Recall Engine -/

theorem handEntries (tag glide : Nat) (run : RecallRun) (l : List (Entry × Nat)) (s : State) :
    KeepsFaults f s (Machine.handEntries tag glide run l s) := by
  have handed (t : State) (e : Entry) (i : Nat) : KeepsFaults f t (t.handEntry tag glide run e i) := by
    unfold State.handEntry
    split
    · exact writeOutcome
    · exact writeOutcome
    · exact writeOutcome
    · exact takeClaim
  induction l generalizing s with
  | nil => exact refl f s
  | cons x l ih => exact (handed s x.1 x.2).trans (ih _)

theorem startTest {c : TestCause} : KeepsFaults f s (s.startTest c) := by
  unfold State.startTest State.startHead
  refine incase ?_
  split
  · exact refl f s
  · exact recalls.trans (handEntries _ _ _ _ _)

theorem settleAlong (n : Nat) (s : State) : KeepsFaults f s (Machine.settleAlong n s) := by
  induction n generalizing s with
  | zero => exact refl f s
  | succ n ih =>
    unfold Machine.settleAlong
    split
    · exact refl f s
    · split
      · exact refl f s
      · exact incase (((recalls.trans raise).trans startTest).trans (ih _))

theorem settleRecalls : KeepsFaults f s s.settleRecalls := settleAlong _ s

/-! ## Calibration and fault records -/

theorem parkCalibrated : KeepsFaults f s (s.parkCalibrated x) :=
  (((trans goTo clearClaim).trans holdHere).trans moveTest).trans evalLead_grant

theorem calSample : KeepsFaults f s (s.calSample x) := by
  have late : KeepsFaults f s (s.calTimeout x) := endCalibration.trans parkCalibrated
  have onwards : KeepsFaults f s (if s.calTimedOut x then s.calTimeout x else s.calMoves x) :=
    ite (fun _ => late) fun _ => setCal
  have down : KeepsFaults f s (s.calDownEnds x) := by
    unfold State.calDownEnds State.enterCalPhase
    exact (trans goTo modMotion).trans setCal
  have up : KeepsFaults f s (s.calUpEnds x) := by
    unfold State.calUpEnds
    extract_lets high low s1 s2
    have captured : KeepsFaults f s s1 := setCal
    have reviewed : KeepsFaults f s1 s2 := trans goTo modRecord
    exact captured.trans (ite (fun _ => (reviewed.trans raise).trans grant) fun _ => endCalibration.trans parkCalibrated)
  unfold State.calSample
  split
  · exact ite (fun _ => down) fun _ => onwards
  · exact ite (fun _ => up) fun _ => onwards
  · exact refl f s

theorem faultRecord : KeepsFaults f s (s.faultRecord x) := by
  unfold State.faultRecord
  extract_lets old st s1 s2 s3 s4
  have ends : KeepsFaults f s s1 := ite (fun _ => disableLane) fun _ => reportEnd
  have faulted : KeepsFaults f s1 s2 := ((endCalibration.trans goTo).trans clearClaim).trans holdHere
  have told : KeepsFaults f s2 s4 := trans (t := s3) entryTest (incase raise)
  exact (((ends.trans faulted).trans told).trans claimEnded).trans evalLead_grant

/-- A latch on another fader. -/
theorem latchIfWatched {c : Cond} (h : f ≠ x) : KeepsFaults f s (s.latchIfWatched x c) := by
  have latched (g : FaultItems → FaultItems) : KeepsFaults f s ((s.modFault x g).raise (.fault x c)) :=
    of_spares ((Spares.modFader s _ h).trans (.raise _ fun k e => h (NoticeKey.fader.inj e).1.symm))
  unfold State.latchIfWatched State.latch
  extract_lets y s1
  exact incase (otherwise ((latched _).trans (incase faultRecord)))

theorem latchWatched (h : f ≠ x) : KeepsFaults f s (s.latchWatched x) :=
  ((latchIfWatched h).trans (latchIfWatched h)).trans (latchIfWatched h)

end State.KeepsFaults

end Sys2Proof.Machine
end

section
namespace Sys2Proof.Machine

/-! # A condition latches (R36, R75, R77) -/

/-! ## The fader record at a fault (R36) -/

section record
variable {s : State} {f : FaderIx}

/-- What becomes of the claim: a lane is disabled for reason FAULT, any other claim ends FAULTED. -/
def State.faultEnded (s : State) (f : FaderIx) : State :=
  if (s.claimOf f).isLane then s.disableLane f (some .fault) else s.reportEnd f .faulted

/-- The fader taken to FAULTED, with its notices, before the Group Follower is told. -/
def State.faultTaken (s : State) (f : FaderIx) : State :=
  let t := ((((s.faultEnded f).endCalibration f .faulted none).goTo f .faulted).clearClaim f).holdHere f
  let t := t.entryTest f (decide (s.claimOf f = .direct))
  if s.stateOf f = .rest then t.raise (.rest f false .fault) else t

theorem State.faultRecord_eq (s : State) (f : FaderIx) :
    s.faultRecord f = (((s.faultTaken f).claimEnded f (s.claimOf f)).evalLead f).grant := rfl

theorem State.faultEnded_fader (s : State) (f : FaderIx) : ∃ l : Lane, ((s.claimOf f).isLane = true → l.enabled = false) ∧
    (s.faultEnded f).fader f = { s.fader f with lane := l } := by
  unfold State.faultEnded
  split
  · refine ⟨_, fun _ => ?_, State.disableLane_fader s f _⟩
    split
    · rfl
    · exact Bool.eq_false_iff.2 ‹_›
  · rename_i h
    exact ⟨_, fun k => absurd k h, by rw [State.reportEnd_fader]⟩

theorem State.endCalibration_fader (s : State) (f : FaderIx) (o : CalOutcome) (n : Option Int) :
    ∃ r c, (s.endCalibration f o n).fader f =
      { s.fader f with record := { (s.fader f).record with pendingCal := r }, cal := c } := by
  unfold State.endCalibration
  split
  · exact ⟨_, _, rfl⟩
  · exact ⟨none, none, by simp⟩

/-- FAULTED at its position without a claim, the motor off, and the lane of a LANE claim disabled; the fault items stand. -/
theorem State.faultTaken_fader (s : State) (f : FaderIx) :
    ∃ (r : Option CalResult) (c : Option CalRun) (l : Lane), ((s.claimOf f).isLane = true → l.enabled = false) ∧
      (s.faultTaken f).fader f = { s.fader f with
        record := { (s.fader f).record with
          state := .faulted, claim := .none, target := s.posOf f, hold := s.posOf f, planned := none, deadline := none,
          expiry := none, pendingCal := r }
        motion := (s.fader f).motion.off, cal := c, lane := l } := by
  obtain ⟨l, hl, ended⟩ := s.faultEnded_fader f
  obtain ⟨r, c, left⟩ := (s.faultEnded f).endCalibration_fader f .faulted none
  refine ⟨r, c, l, hl, ?_⟩
  unfold State.faultTaken
  extract_lets t1 t2
  have noted : (if s.stateOf f = .rest then t2.raise (.rest f false .fault) else t2).fader f = t1.fader f := by
    unfold t2
    split <;> simp
  rw [noted]
  rw [ended] at left
  simp only [t1, State.holdHere_fader, State.clearClaim_fader, State.goTo_fader, left, State.posOf]
  rfl

/-- The claim ended, the lead evaluated and slots granted: a fader that is FAULTED without a claim is spared. -/
theorem State.faultRecord_spares (s : State) (f : FaderIx) : Spares f (s.faultTaken f) (s.faultRecord f) := by
  obtain ⟨r, c, l, -, taken⟩ := s.faultTaken_fader f
  have told : Spares f (s.faultTaken f) ((s.faultTaken f).claimEnded f (s.claimOf f)) := .claimEnded _ _ _
  rw [State.faultRecord_eq]
  refine told.trans (.evalLead_grant f (.inl ?_) ?_)
  · rw [State.claimOf, told.fader, taken]; rfl
  · rw [State.stateOf, told.fader, taken]; rfl

/-- A DIRECT claim ends FAULTED with its MOTION notice (R27, R36). -/
theorem State.faultRecord_direct (h : s.claimOf f = .direct) :
    Notice.motion f .direct .faulted (s.posOf f) false ∈ (s.faultRecord f).notices := by
  obtain ⟨n, hn⟩ : ∃ n, n = Notice.motion f .direct .faulted (s.posOf f) false := ⟨_, rfl⟩
  have key : n.key = .fader f .motion := by rw [hn]; rfl
  have raised : n ∈ (s.faultEnded f).notices := by
    rw [State.faultEnded, h, if_neg nofun, State.reportEnd, h, hn]
    exact mem_raiseInto _ _ nofun
  have ended : n ∈ ((s.faultEnded f).endCalibration f .faulted none).notices := by
    unfold State.endCalibration
    split
    · exact raised
    · exact mem_raiseInto_of_ne raised (by rw [key]; nofun)
  rw [← hn]
  refine (s.faultRecord_spares f).notices n ?_ .motion key
  unfold State.faultTaken
  extract_lets t1 t2
  have tested : n ∈ t2.notices := by
    refine State.mem_entryTest _ ?_ (by rw [key]; nofun)
    rw [State.holdHere_notices, State.clearClaim_notices, State.goTo_notices]
    exact ended
  split
  · exact mem_raiseInto_of_ne tested (by rw [key]; nofun)
  · exact tested

/-- The outcome of an open recall entry is FAULTED (R109). -/
theorem State.faultRecord_recall {r : Recall} {rest : List Recall} {run : RecallRun} {i : Nat}
    (hc : s.claimOf f = .recall r.tag i) (hs : s.recalls = r :: rest) (hr : r.run = some run)
    (hi : run.outcomes[i]? = some none) : (s.faultRecord f).recalls =
      { r with run := some { run with outcomes := run.outcomes.set i (some .faulted) } } :: rest := by
  have ended : (s.faultEnded f).recalls = (s.writeOutcome r.tag i .faulted).recalls := by
    rw [State.faultEnded, hc, if_neg nofun, State.reportEnd, hc]
  have taken : (s.faultTaken f).recalls = (s.faultEnded f).recalls := by
    unfold State.faultTaken
    extract_lets t1 t2
    have noted : (if s.stateOf f = .rest then t2.raise (.rest f false .fault) else t2).recalls = t1.recalls := by
      unfold t2
      split <;> simp
    rw [noted]
    simp [t1]
  rw [State.faultRecord_eq, State.grant_recalls, State.evalLead_recalls, State.claimEnded_recalls, taken, ended]
  exact State.writeOutcome_open .faulted hs hr hi

end record

/-! ## What a fader is after its fault -/

/-- Fader `f` of `p` has been taken to FAULTED in `t` (R36): at its position without a claim and with the motor off, its lane
disabled, a DIRECT claim noticed and an open entry of the head recall resolved. -/
structure State.TakenFaulted (f : FaderIx) (p t : State) : Prop where
  state : t.stateOf f = .faulted
  claim : t.claimOf f = .none
  target : t.targetOf f = p.posOf f
  hold : t.holdOf f = p.posOf f
  drive : (t.fader f).motion.drive = 0
  lane : (p.claimOf f).isLane = true → (t.fader f).lane.enabled = false
  direct : p.claimOf f = .direct → Notice.motion f .direct .faulted (p.posOf f) false ∈ t.notices
  entry : ∀ r rest run i, p.recalls = r :: rest → r.run = some run → p.claimOf f = .recall r.tag i →
    run.outcomes[i]? = some none →
    t.recalls = { r with run := some { run with outcomes := run.outcomes.set i (some .faulted) } } :: rest

section taken
variable {f : FaderIx} {p s t : State}

theorem State.takenFaulted_faultRecord (s : State) (f : FaderIx) : TakenFaulted f s (s.faultRecord f) := by
  obtain ⟨r, c, l, hl, taken⟩ := s.faultTaken_fader f
  have fader := (s.faultRecord_spares f).fader.trans taken
  refine ⟨?_, ?_, ?_, ?_, ?_, fun h => ?_, State.faultRecord_direct, fun r rest run i hs hr hc hi =>
    State.faultRecord_recall hc hs hr hi⟩
  · rw [State.stateOf, fader]
  · rw [State.claimOf, fader]
  · rw [State.targetOf, fader]
  · rw [State.holdOf, fader]
  · rw [fader]; rfl
  · rw [fader]; exact hl h

theorem State.faultRecord_fault (s : State) (f : FaderIx) : ((s.faultRecord f).fader f).fault = (s.fader f).fault := by
  obtain ⟨r, c, l, -, taken⟩ := s.faultTaken_fader f
  rw [(s.faultRecord_spares f).fader, taken]

/-- Writes of fault items, and notices of them, before the fault leave what it is taken from. -/
theorem State.TakenFaulted.after (h : TakenFaulted f s t) (hf : ∃ x, s.fader f = { p.fader f with fault := x })
    (hr : s.recalls = p.recalls) : TakenFaulted f p t := by
  obtain ⟨x, e⟩ := hf
  have claim : s.claimOf f = p.claimOf f := by rw [State.claimOf, e]; rfl
  have pos : s.posOf f = p.posOf f := by rw [State.posOf, e]; rfl
  obtain ⟨state, none_held, target, hold, drive, lane, direct, entry⟩ := h
  rw [pos] at target hold direct
  rw [claim] at lane direct
  simp only [claim, hr] at entry
  exact ⟨state, none_held, target, hold, drive, lane, direct, entry⟩

/-- What writes no more than fault items, and raises no MOTION notice of the fader, leaves it as the fault has taken it. -/
theorem State.TakenFaulted.of_fault (h : TakenFaulted f p s) (hf : ∃ x, t.fader f = { s.fader f with fault := x })
    (hr : t.recalls = s.recalls) (hn : ∀ n ∈ s.notices, n.key = .fader f .motion → n ∈ t.notices) :
    TakenFaulted f p t := by
  obtain ⟨x, e⟩ := hf
  refine ⟨?_, ?_, ?_, ?_, ?_, fun hc => ?_, fun hc => hn _ (h.direct hc) rfl, fun r rest run i hs hrun hc hi =>
    hr.trans (h.entry r rest run i hs hrun hc hi)⟩
  · rw [State.stateOf, e]; exact h.state
  · rw [State.claimOf, e]; exact h.claim
  · rw [State.targetOf, e]; exact h.target
  · rw [State.holdOf, e]; exact h.hold
  · rw [e]; exact h.drive
  · rw [e]; exact h.lane hc

end taken

/-! ## A latch (R75, R77) -/

section latch
variable {s : State} {f : FaderIx} {c : Cond}

/-- A condition added to the latched set is the most recent latch, and its FAULT notice is raised (R75, R77). -/
def State.faultNoted (s : State) (f : FaderIx) (c : Cond) : State :=
  (s.modFault f fun x => { x with latched := x.latched.add c, lastLatch := some c }).raise (.fault f c)

/-- The condition is current and watched on the fader, and not yet latched. -/
def State.latches (s : State) (f : FaderIx) (c : Cond) : Bool :=
  (s.fader f).fault.current.has c && (s.config f).watch.has c && !(s.fader f).fault.latched.has c

theorem State.latchIfWatched_eq (s : State) (f : FaderIx) (c : Cond) : s.latchIfWatched f c =
    if s.latches f c then
      if (s.fader f).fault.latched.isEmpty then (s.faultNoted f c).faultRecord f else s.faultNoted f c
    else s := by
  unfold State.latchIfWatched State.latch State.latches
  cases (s.fader f).fault.current.has c && (s.config f).watch.has c
  · rfl
  · cases hl : (s.fader f).fault.latched.has c
    · simp [hl, State.faultNoted]
    · simp [hl]

theorem State.faultNoted_fader (s : State) (f : FaderIx) (c : Cond) : (s.faultNoted f c).fader f = { s.fader f with
    fault := { (s.fader f).fault with latched := (s.fader f).fault.latched.add c, lastLatch := some c } } := by
  rw [State.faultNoted, State.fader_raise, State.modFault_fader]

theorem State.mem_faultNoted {n : Notice} {k : FaderNotice} (hn : n ∈ s.notices) (hk : n.key = .fader f k)
    (h : k ≠ .fault) : n ∈ (s.faultNoted f c).notices :=
  mem_raiseInto_of_ne hn fun e => h (NoticeKey.fader.inj (hk ▸ e)).2

/-- The fault items after a condition has been looked at (R75, R77). -/
theorem State.latchIfWatched_fault (s : State) (f : FaderIx) (c : Cond) : ((s.latchIfWatched f c).fader f).fault =
    if s.latches f c then
      { (s.fader f).fault with latched := (s.fader f).fault.latched.add c, lastLatch := some c }
    else (s.fader f).fault := by
  rw [State.latchIfWatched_eq]
  split
  · split
    · rw [State.faultRecord_fault, State.faultNoted_fader]
    · rw [State.faultNoted_fader]
  · rfl

@[simp] theorem State.latchIfWatched_current (s : State) (f : FaderIx) (c : Cond) :
    ((s.latchIfWatched f c).fader f).fault.current = (s.fader f).fault.current := by
  rw [State.latchIfWatched_fault]
  split <;> rfl

theorem State.latchIfWatched_latched (s : State) (f : FaderIx) (c k : Cond) :
    ((s.latchIfWatched f c).fader f).fault.latched.has k = ((s.fader f).fault.latched.has k ||
      (decide (k = c) && ((s.fader f).fault.current.has k && (s.config f).watch.has k))) := by
  rw [State.latchIfWatched_fault, State.latches]
  by_cases hk : k = c
  · subst hk
    cases (s.fader f).fault.current.has k && (s.config f).watch.has k
    · simp
    · cases hl : (s.fader f).fault.latched.has k <;> simp [CondSet.has_add, hl]
  · split <;> simp [CondSet.has_add, hk]

/-- A condition that latches names the pending FAULT notice (R77). -/
theorem State.latchIfWatched_raises (h : s.latches f c = true) :
    Notice.fault f c ∈ (s.latchIfWatched f c).notices := by
  have told : Notice.fault f c ∈ (s.faultNoted f c).notices := mem_raiseInto _ _ nofun
  rw [State.latchIfWatched_eq, if_pos h]
  split
  · exact State.KeepsFaults.faultRecord.notices _ told rfl
  · exact told

theorem State.latchIfWatched_passes (h : s.latches f c = false) : s.latchIfWatched f c = s := by
  rw [State.latchIfWatched_eq, h]
  rfl

/-- The first condition to latch takes the fader to FAULTED (R36, R75). -/
theorem State.latchIfWatched_takes (h : s.latches f c = true) (he : (s.fader f).fault.latched.isEmpty = true) :
    s.latchIfWatched f c = (s.faultNoted f c).faultRecord f := by
  rw [State.latchIfWatched_eq, if_pos h, if_pos he]

/-- A further condition leaves the fader record (R75). -/
theorem State.latchIfWatched_joins (h : s.latches f c = true) (he : (s.fader f).fault.latched.isEmpty = false) :
    s.latchIfWatched f c = s.faultNoted f c := by
  rw [State.latchIfWatched_eq, if_pos h, if_neg (Bool.eq_false_iff.1 he)]

end latch

end Sys2Proof.Machine
end

section
namespace Sys2Proof.Machine

/-! # A condition becomes current (R72 to R75) -/

/-! ## The tests of the Fault Monitor -/

theorem State.latchIfWatched_runs (s : State) (f : FaderIx) (c : Cond) :
    ((s.latchIfWatched f c).fader f).fault.trackRun = (s.fader f).fault.trackRun ∧
      ((s.latchIfWatched f c).fader f).fault.overcurrentRun = (s.fader f).fault.overcurrentRun := by
  rw [State.latchIfWatched_fault]
  split <;> exact ⟨rfl, rfl⟩

/-- STALL at a sample (R72). -/
def State.stallFound (s : State) (f : FaderIx) : Bool :=
  (stallTest s.now (s.fader f).stallQualifies (s.posOf f) (s.fader f).fault.stallRun).2

/-- TRACK at a sample at which it is tested (R73). -/
def State.trackFound (s : State) (f : FaderIx) : Bool :=
  (runTest s.now (decide ((s.fader f).track.cls = .outOfWindow)) (ms 20) (s.fader f).fault.trackRun).2

/-- OVERCURRENT at a sample (R74). -/
def State.overcurrentFound (s : State) (f : FaderIx) (active : Bool) : Bool :=
  (runTest s.now active (ms 1) (s.fader f).fault.overcurrentRun).2

/-- The fault items `y` become `z` at a test of `c` that finds it current or not. -/
structure FaultItems.Tests (c : Cond) (found : Bool) (y z : FaultItems) : Prop where
  latched : z.latched = y.latched
  current : ∀ k, z.current.has k = if k = c then found else y.current.has k
  trackRun : c = .stall → z.trackRun = y.trackRun
  overcurrentRun : c ≠ .overcurrent → z.overcurrentRun = y.overcurrentRun

/-- From `s` to `t` condition `c` of fader `f` is tested, and latches where it is found current and watched. -/
def State.Tested (f : FaderIx) (c : Cond) (found : Bool) (s t : State) : Prop :=
  ∃ g, (∀ y, FaultItems.Tests c found y (g y)) ∧ t = (s.modFault f g).latchIfWatched f c

theorem State.stallSample_tested (s : State) (f : FaderIx) : Tested f .stall (s.stallFound f) s (s.stallSample f) := by
  refine ⟨_, ?_, rfl⟩
  intro y
  exact ⟨rfl, fun k => by cases k <;> rfl, fun _ => rfl, fun _ => rfl⟩

theorem State.trackSample_tested (s : State) (f : FaderIx) :
    Tested f .track (s.trackFound f) s (s.trackSample f false) := by
  refine ⟨_, ?_, rfl⟩
  intro y
  exact ⟨rfl, fun k => by cases k <;> rfl, nofun, fun _ => rfl⟩

theorem State.overcurrentSample_tested (s : State) (f : FaderIx) (active : Bool) :
    Tested f .overcurrent (s.overcurrentFound f active) s (s.overcurrentSample f active) := by
  refine ⟨_, ?_, rfl⟩
  intro y
  exact ⟨rfl, fun k => by cases k <;> rfl, nofun, fun h => absurd rfl h⟩

/-- The Fault Monitor so far: nothing has latched and no more than fault items of `p` are written, or the fader has been
taken to FAULTED. -/
def State.Monitored (f : FaderIx) (p t : State) : Prop :=
  ((t.fader f).fault.latched.isEmpty = true ∧ (∃ x, t.fader f = { p.fader f with fault := x }) ∧ t.recalls = p.recalls) ∨
    ((t.fader f).fault.latched.isEmpty = false ∧ TakenFaulted f p t)

theorem State.Monitored.start {f : FaderIx} {p : State} (h : (p.fader f).fault.latched.isEmpty = true) :
    Monitored f p p := .inl ⟨h, ⟨_, rfl⟩, rfl⟩

namespace State.Monitored
variable {f : FaderIx} {p s : State} {c : Cond}

/-- With a condition latched the fader has been taken to FAULTED. -/
theorem taken (h : Monitored f p s) (hc : (s.fader f).fault.latched.has c = true) : TakenFaulted f p s := by
  rcases h with ⟨he, -⟩ | ⟨-, ht⟩
  · rw [CondSet.has_of_isEmpty he] at hc
    cases hc
  · exact ht

theorem modFault (h : Monitored f p s) {g : FaultItems → FaultItems} (hg : ∀ y, (g y).latched = y.latched) :
    Monitored f p (s.modFault f g) := by
  have items : (s.modFault f g).fader f = { s.fader f with fault := g (s.fader f).fault } := State.modFault_fader _ _ _
  have latched : ((s.modFault f g).fader f).fault.latched = (s.fader f).fault.latched := by rw [items]; exact hg _
  rw [Monitored, latched]
  rcases h with ⟨he, ⟨x, e⟩, hr⟩ | ⟨he, ht⟩
  · exact .inl ⟨he, ⟨_, by rw [items, e]⟩, hr⟩
  · exact .inr ⟨he, ht.of_fault ⟨_, items⟩ rfl fun _ hn _ => hn⟩

/-- The first condition to latch takes the fader to FAULTED, and a further one leaves it there (R36, R75). -/
theorem latchIfWatched (h : Monitored f p s) (c : Cond) : Monitored f p (s.latchIfWatched f c) := by
  cases hl : s.latches f c with
  | false => rwa [State.latchIfWatched_passes hl]
  | true =>
    have added : ((s.latchIfWatched f c).fader f).fault.latched.isEmpty = false := by
      rw [State.latchIfWatched_fault, if_pos hl]
      exact CondSet.isEmpty_add _ c
    refine .inr ⟨added, ?_⟩
    rcases h with ⟨he, ⟨x, e⟩, hr⟩ | ⟨he, ht⟩
    · rw [State.latchIfWatched_takes hl he]
      exact (State.takenFaulted_faultRecord _ f).after ⟨_, by rw [State.faultNoted_fader, e]⟩ hr
    · rw [State.latchIfWatched_joins hl he]
      exact ht.of_fault ⟨_, State.faultNoted_fader _ _ _⟩ rfl fun n hn hk => State.mem_faultNoted hn hk nofun

end State.Monitored

namespace State.Tested
variable {f : FaderIx} {c k : Cond} {found : Bool} {p s t : State}

theorem base (h : Tested f c found s t) : t.base = s.base := by
  obtain ⟨g, -, rfl⟩ := h
  simp

theorem current (h : Tested f c found s t) :
    (t.fader f).fault.current.has k = if k = c then found else (s.fader f).fault.current.has k := by
  obtain ⟨g, hg, rfl⟩ := h
  rw [State.latchIfWatched_current, State.modFault_fader]
  exact (hg _).current k

theorem latched (h : Tested f c found s t) : (t.fader f).fault.latched.has k =
    ((s.fader f).fault.latched.has k || (decide (k = c) && (found && (s.config f).watch.has k))) := by
  obtain ⟨g, hg, rfl⟩ := h
  have items := hg (s.fader f).fault
  rw [State.latchIfWatched_latched, State.modFault_fader, items.latched, items.current]
  by_cases hk : k = c
  · rw [if_pos hk]; rfl
  · simp [hk]

/-- A condition found current and watched, and not latched before, names the FAULT notice (R77). -/
theorem raises (h : Tested f c true s t) (hw : (s.config f).watch.has c = true)
    (hl : (s.fader f).fault.latched.has c = false) : Notice.fault f c ∈ t.notices := by
  obtain ⟨g, hg, rfl⟩ := h
  have items := hg (s.fader f).fault
  have watch : ((s.modFault f g).config f).watch.has c = true := hw
  refine State.latchIfWatched_raises ?_
  rw [State.latches, State.modFault_fader, items.latched, items.current, watch, hl, if_pos rfl]
  rfl

/-- A condition found not to be current leaves the notices. -/
theorem notices (h : Tested f c false s t) : t.notices = s.notices := by
  obtain ⟨g, hg, rfl⟩ := h
  exact (s.onlyFaults_tested f g c (((hg _).current c).trans (if_pos rfl))).notices

theorem trackFound (h : Tested f .stall found s t) : t.trackFound f = s.trackFound f := by
  have now := State.now_of_base h.base
  have track := State.track_of_base h.base f
  obtain ⟨g, hg, rfl⟩ := h
  rw [State.trackFound, now, track, (State.latchIfWatched_runs (s.modFault f g) f .stall).1, State.modFault_fader,
    (hg _).trackRun rfl]
  rfl

theorem overcurrentFound (h : Tested f c found s t) (hc : c ≠ .overcurrent) (active : Bool) :
    t.overcurrentFound f active = s.overcurrentFound f active := by
  have now := State.now_of_base h.base
  obtain ⟨g, hg, rfl⟩ := h
  rw [State.overcurrentFound, now, (State.latchIfWatched_runs (s.modFault f g) f c).2, State.modFault_fader,
    (hg _).overcurrentRun hc]
  rfl

theorem monitored (h : Tested f c found s t) (hs : Monitored f p s) : Monitored f p t := by
  obtain ⟨g, hg, rfl⟩ := h
  exact (hs.modFault fun y => (hg y).latched).latchIfWatched c

end State.Tested

/-! ## One condition through the Fault Monitor -/

/-- Tests of conditions other than `c`. -/
structure State.TestsOthers (f : FaderIx) (c : Cond) (p s t : State) : Prop where
  base : t.base = s.base
  current : (t.fader f).fault.current.has c = (s.fader f).fault.current.has c
  latched : (t.fader f).fault.latched.has c = (s.fader f).fault.latched.has c
  monitored : Monitored f p s → Monitored f p t

namespace State.TestsOthers
variable {f : FaderIx} {c k : Cond} {found : Bool} {p s t u : State}

theorem refl (f : FaderIx) (c : Cond) (p s : State) : TestsOthers f c p s s := ⟨rfl, rfl, rfl, id⟩

theorem trans (h : TestsOthers f c p s t) (h' : TestsOthers f c p t u) : TestsOthers f c p s u :=
  ⟨h'.base.trans h.base, h'.current.trans h.current, h'.latched.trans h.latched, fun hs => h'.monitored (h.monitored hs)⟩

theorem of_tested (h : Tested f k found s t) (hk : c ≠ k) : TestsOthers f c p s t :=
  ⟨h.base, by rw [h.current, if_neg hk], by rw [h.latched, decide_eq_false hk, Bool.false_and, Bool.or_false], h.monitored⟩

end State.TestsOthers

/-- Whether the Fault Monitor finds a condition current at a sample (R72 to R74). -/
def State.finds (s : State) (f : FaderIx) (active : Bool) : Cond → Bool
  | .stall => s.stallFound f
  | .track => s.trackFound f
  | .overcurrent => s.overcurrentFound f active

/-- The TRACK test, made outside CAL-DOWN and CAL-UP (R73), seen from another condition. -/
theorem State.trackSample_testsOthers (s p : State) (f : FaderIx) (finding : Bool) {c : Cond} (hc : c ≠ .track) :
    TestsOthers f c p s (s.trackSample f finding) := by
  cases finding
  · exact .of_tested (s.trackSample_tested f) hc
  · exact .refl f c p s

theorem State.trackSample_overcurrentFound (s : State) (f : FaderIx) (finding active : Bool) :
    (s.trackSample f finding).overcurrentFound f active = s.overcurrentFound f active := by
  cases finding
  · exact (s.trackSample_tested f).overcurrentFound nofun active
  · rfl

/-- The samples of R72 to R74 in which `c` is the last condition found, as far as it is known from the input. -/
def State.lastFound (s : State) (f : FaderIx) (active : Bool) (c : Cond) : Prop :=
  (c = .stall → s.trackFound f = false) ∧ (active = false ∨ c = .overcurrent)

/-- The test of `c` within the Fault Monitor: other tests before it and after it. -/
theorem State.monitor_tests (p : State) (f : FaderIx) (active : Bool) {finding : Bool} {c : Cond}
    (hc : c = .track → finding = false) : ∃ u v, TestsOthers f c p p u ∧ Tested f c (p.finds f active c) u v ∧
      TestsOthers f c p v (p.monitor f active finding) ∧
      (p.lastFound f active c → (p.monitor f active finding).notices = v.notices) := by
  obtain ⟨u, hu⟩ : ∃ u, u = p.stallSample f := ⟨_, rfl⟩
  obtain ⟨v, hv⟩ : ∃ v, v = u.trackSample f finding := ⟨_, rfl⟩
  have whole : p.monitor f active finding = v.overcurrentSample f active := by rw [hv, hu]; rfl
  have stall : Tested f .stall (p.stallFound f) p u := hu ▸ p.stallSample_tested f
  have others {k : Cond} (hk : k ≠ .track) : TestsOthers f k p u v := hv ▸ u.trackSample_testsOthers p f finding hk
  have last : Tested f .overcurrent (p.overcurrentFound f active) v (p.monitor f active finding) := by
    have found : v.overcurrentFound f active = p.overcurrentFound f active := by
      rw [hv, State.trackSample_overcurrentFound, stall.overcurrentFound nofun]
    rw [whole, ← found]
    exact v.overcurrentSample_tested f active
  have quiet (hk : active = false ∨ c = .overcurrent) (hne : c ≠ .overcurrent) :
      (p.monitor f active finding).notices = v.notices := by
    obtain rfl := hk.resolve_right hne
    exact last.notices
  cases c with
  | stall =>
    refine ⟨p, u, .refl f _ p p, stall, (others (k := .stall) nofun).trans (.of_tested last nofun), fun ⟨ht, ha⟩ => ?_⟩
    rw [quiet ha nofun, hv]
    cases finding
    · have track := u.trackSample_tested f
      rw [stall.trackFound, ht rfl] at track
      exact track.notices
    · rfl
  | track =>
    obtain rfl := hc rfl
    have track := u.trackSample_tested f
    rw [stall.trackFound, ← hv] at track
    exact ⟨u, v, .of_tested stall nofun, track, .of_tested last nofun, fun ⟨_, ha⟩ => quiet ha nofun⟩
  | overcurrent =>
    exact ⟨v, _, (TestsOthers.of_tested (c := .overcurrent) stall nofun).trans (others nofun), last, .refl f _ p _,
      fun _ => rfl⟩

section monitor
variable {p : State} {f : FaderIx} {active finding : Bool} {c : Cond}

/-- What is found is current (R72 to R74). -/
theorem State.monitor_current (hc : c = .track → finding = false) (hf : p.finds f active c = true) :
    ((p.monitor f active finding).fader f).fault.current.has c = true := by
  obtain ⟨u, v, -, tested, after, -⟩ := p.monitor_tests f active hc
  rw [after.current, tested.current, if_pos rfl, hf]

/-- A watched condition found current with nothing latched latches: the fader is FAULTED, and the last condition found is
named in the FAULT notice (R36, R75, R77). -/
theorem State.monitor_latches (hc : c = .track → finding = false) (hf : p.finds f active c = true)
    (hw : (p.config f).watch.has c = true) (he : (p.fader f).fault.latched.isEmpty = true) :
    ((p.monitor f active finding).fader f).fault.latched.has c = true ∧ TakenFaulted f p (p.monitor f active finding) ∧
      (p.lastFound f active c → Notice.fault f c ∈ (p.monitor f active finding).notices) := by
  obtain ⟨u, v, before, tested, after, told⟩ := p.monitor_tests f active hc
  rw [hf] at tested
  have watch : (u.config f).watch.has c = true := by
    rw [State.config, State.settings_of_base before.base]; exact hw
  have latched : ((p.monitor f active finding).fader f).fault.latched.has c = true := by
    rw [after.latched, tested.latched, watch]
    simp
  have monitored := after.monitored (tested.monitored (before.monitored (.start he)))
  refine ⟨latched, monitored.taken latched, fun hl => ?_⟩
  rw [told hl]
  exact tested.raises watch (before.latched.trans (CondSet.has_of_isEmpty he c))

end monitor

end Sys2Proof.Machine
end

section
namespace Sys2Proof.Machine

/-! ## The end of a sample at which the faults are tested first (log entry 13) -/

section ends
variable {p : State} {f : FaderIx} {active : Bool} {c : Cond}

/-- The state in which the Fault Monitor leaves such a sample. -/
def State.monitoredSample (p : State) (f : FaderIx) (active : Bool) : State := p.monitor f active (p.stateOf f).finding

theorem State.sampleEnds_faultsFirst (p : State) (f : FaderIx) (active : Bool) : p.sampleEnds f active true =
    (((p.monitoredSample f active).arriveIfDue f).calSample f).settleRecalls := rfl

/-- Once the fader is FAULTED no arrival and no calibration end follows. -/
theorem State.sampleEnds_faulted (h : (p.monitoredSample f active).stateOf f = .faulted) :
    p.sampleEnds f active true = (p.monitoredSample f active).settleRecalls := by
  rw [State.sampleEnds_faultsFirst, State.arriveIfDue_other (by rw [h]; nofun), State.calSample_other (by rw [h]; rfl)]

/-- What was found current is current at the sample's end. -/
theorem State.sampleEnds_current (hr : c = .track → p.stateOf f = .calibrating .calWait → p.recallsOpen)
    (hc : ((p.monitoredSample f active).fader f).fault.current.has c = true) :
    ((p.sampleEnds f active true).fader f).fault.current.has c = true := by
  obtain ⟨m, hm⟩ : ∃ m, m = p.monitoredSample f active := ⟨_, rfl⟩
  have arrives : KeepsFaults f m (m.arriveIfDue f) := KeepsFaults.incase .arrive
  have kept : KeepsFaults f m (p.sampleEnds f active true) := by
    rw [State.sampleEnds_faultsFirst, ← hm]
    exact (arrives.trans .calSample).trans .settleRecalls
  rw [← hm] at hc
  by_cases waits : m.stateOf f = .calibrating .calWait
  case neg =>
    rw [(kept.stands waits).2]
    exact hc
  cases c with
  | track =>
    have ends : p.sampleEnds f active true = m := by
      have monitored : Monitors f p m := hm ▸ p.monitor_monitors f active _
      have still_open : m.recallsOpen := by
        rcases monitored with ⟨state, -, recalls⟩ | ⟨state, -⟩
        · rw [State.recallsOpen, recalls]
          exact hr rfl (state.symm.trans waits)
        · rw [waits] at state
          cases state
      rw [State.sampleEnds_faultsFirst, ← hm, State.arriveIfDue_other (by rw [waits]; nofun),
        State.calSample_other (by rw [waits]; rfl), State.settleRecalls_open still_open]
    rw [ends]
    exact hc
  | stall =>
    obtain ⟨r, b, e⟩ := kept.items
    rw [e]
    exact hc
  | overcurrent =>
    obtain ⟨r, b, e⟩ := kept.items
    rw [e]
    exact hc

/-- The completion of recalls leaves the fader FAULTED, as it was taken, with its notices. -/
theorem State.TakenFaulted.settled {m : State} (h : TakenFaulted f p m) : Spares f m m.settleRecalls :=
  (HandsOut.settleRecalls m).spares (by rw [h.state]; rfl)

/-- The only recall runs on with the outcome FAULTED written, or completes (R109, R112). -/
theorem State.TakenFaulted.recalled {m : State} (h : TakenFaulted f p m) {r : Recall} {run : RecallRun} {i : Nat}
    (hs : p.recalls = [r]) (hr : r.run = some run) (hc : p.claimOf f = .recall r.tag i) (hi : run.outcomes[i]? = some none) :
    let left := run.outcomes.set i (some .faulted)
    (none ∈ left → m.settleRecalls.recalls = [{ r with run := some { run with outcomes := left } }]) ∧
      (none ∉ left → m.settleRecalls.recalls = [] ∧ Notice.recallEnd r.tag r.page false
        (((m.page r.page).entries.zip left).map fun (e, o) => (e.fader, o.getD .faulted)) ∈ m.settleRecalls.notices) := by
  intro left
  have written := h.entry r [] run i hs hr hc hi
  refine ⟨fun hn => ?_, fun hn => ?_⟩
  · rw [State.settleRecalls_open, written]
    intro r' hr' run' hrun'
    rw [written, List.mem_singleton] at hr'
    subst hr'
    exact Option.some.inj hrun' ▸ hn
  · rw [State.settleRecalls_last written rfl hn, outcomeItems_done _ _ .faulted hn]
    exact ⟨rfl, mem_raiseInto _ _ nofun⟩

end ends

/-! ## The sample at which a condition becomes current -/

section sample
variable {s : State} {f : FaderIx} {raw : BitVec 12} {active : Bool} {c : Cond}

/-- The sample as far as its tests: what these read of the fader, and what stands of it. -/
structure State.SampledFor (f : FaderIx) (s p : State) : Prop where
  claim : p.claimOf f = s.claimOf f
  lane : (p.fader f).lane = (s.fader f).lane
  latched : (p.fader f).fault.latched = (s.fader f).fault.latched
  stallRun : (p.fader f).fault.stallRun = (s.fader f).fault.stallRun
  overcurrentRun : (p.fader f).fault.overcurrentRun = (s.fader f).fault.overcurrentRun
  trackRun : (p.fader f).track.cls ≠ .inWindow → (p.fader f).fault.trackRun = (s.fader f).fault.trackRun
  finding : (p.stateOf f).finding = (s.stateOf f).finding
  waits : p.stateOf f = .calibrating .calWait → s.stateOf f = .calibrating .calWait
  recalls : p.recalls = s.recalls
  pages : p.pages = s.pages
  settings : p.settings = s.settings
  now : p.now = s.sampleAt f

theorem State.sampleMotion_sampledFor (raw : BitVec 12) (o : s.Ordinary f) : SampledFor f s (s.sampleMotion f raw) := by
  obtain ⟨y, hy, carried⟩ := State.sampleMotion_carries raw o
  have fault := carried.fault
  have waits (h : (s.sampleMotion f raw).stateOf f = .calibrating .calWait) : s.stateOf f = .calibrating .calWait := by
    rcases carried.state with e | ⟨-, takes⟩
    · exact e.symm.trans h
    · rw [State.stateOf] at h
      rw [h] at takes
      cases takes
  refine ⟨carried.claim, carried.lane, ?_, ?_, ?_, fun h => ?_, carried.finding_eq, waits, State.sampleMotion_recalls raw o,
    (s.sampleMotion_samplesOnly f raw).pages, s.sampleMotion_settings f raw, s.sampleMotion_now f raw⟩
  all_goals rw [fault]
  · rcases hy with rfl | ⟨-, rfl⟩ <;> rfl
  · rcases hy with rfl | ⟨-, rfl⟩ <;> rfl
  · rcases hy with rfl | ⟨-, rfl⟩ <;> rfl
  · rw [hy.resolve_right fun k => h k.1]

/-- An OUT-OF-WINDOW sample stays at the last valid position (R2, R4). -/
theorem State.sampledPos_outside (o : s.Ordinary f)
    (h : classify (s.config f).calLow (s.config f).calHigh raw.toNat ≠ .inWindow) :
    s.sampledPos f raw = (s.fader f).track.lastValid := by
  rw [classify_eq] at h
  rw [State.sampledPos, State.posOf, s.sampleMotion_sensed]
  refine (Track.sensed_outside _ ?_ ?_).1
  · exact fun k => h (if_pos k)
  · exact o.first

theorem State.sampled_cls_outside (h : classify (s.config f).calLow (s.config f).calHigh raw.toNat ≠ .inWindow) :
    ((s.sampleMotion f raw).fader f).track.cls = .outOfWindow := by
  rw [s.sampleMotion_sensed, Track.sensed_cls]
  cases hc : classify (s.config f).calLow (s.config f).calHigh raw.toNat with
  | inWindow => exact absurd hc h
  | outOfWindow => rfl

/-- A sample in TRAVEL or SETTLE stays there, its setpoint where the ramp is at the sample's time (R44). -/
theorem State.sampleMotion_setpoint (o : s.Ordinary f) (hs : (s.stateOf f).servoed) :
    ((s.sampleMotion f raw).stateOf f).servoed ∧ ((s.sampleMotion f raw).fader f).motion.setpoint =
      ((s.fader f).motion.advance (s.sampleAt f)).setpoint := by
  obtain ⟨driven, -⟩ := State.sampledTo_drives (raw := raw) o hs
  have moving : (((s.sensed f raw).drives f).stateOf f).servoed := by rwa [driven.stateOf]
  obtain ⟨stays, n, motion⟩ := State.windowTest_servoed moving
  rw [s.sampleMotion_eq, motion, driven.motion]
  exact ⟨stays, (State.sampledMotion_advances hs).1⟩

/-- Ten steps of error and more are 40 % drive and more (R47). -/
theorem servoDrive_forty {setpoint pos : Nat} (h : 10 ≤ dist setpoint pos) : 40 ≤ (servoDrive setpoint pos).natAbs := by
  unfold dist at h
  unfold servoDrive
  omega

/-- What `conditionsBecomeCurrentAndLatch` states of a row that finds condition `c`: it is current, and where it is watched
with nothing latched it latches and the fader is taken to FAULTED. -/
def State.Latches (s : State) (f : FaderIx) (active : Bool) (t : State) (c : Cond) : Prop :=
  (t.fader f).fault.current.has c = true ∧
    ((s.config f).watch.has c = true → (s.fader f).fault.latched.isEmpty = true →
      (t.fader f).fault.latched.has c = true ∧ t.stateOf f = .faulted ∧ t.claimOf f = .none ∧
      t.targetOf f = t.posOf f ∧ t.holdOf f = t.posOf f ∧ (t.fader f).motion.drive = 0 ∧
      ((s.claimOf f).isLane = true → (t.fader f).lane.enabled = false) ∧
      (s.claimOf f = .direct → Notice.motion f .direct .faulted (t.posOf f) false ∈ t.notices) ∧
      ((active = false ∨ c = .overcurrent) → Notice.fault f c ∈ t.notices) ∧
      ∀ r run i, s.recalls = [r] → r.run = some run → s.claimOf f = .recall r.tag i → run.outcomes[i]? = some none →
        let left := run.outcomes.set i (some .faulted)
        (none ∈ left → t.recalls = [{ r with run := some { run with outcomes := left } }]) ∧
        (none ∉ left → t.recalls = [] ∧ Notice.recallEnd r.tag r.page false
          (((s.page r.page).entries.zip left).map fun (e, o) => (e.fader, o.getD .faulted)) ∈ t.notices))

theorem State.sampleEnds_faultsFirst_posOf (s : State) (f : FaderIx) (raw : BitVec 12) (active : Bool) :
    ((s.sampleMotion f raw).sampleEnds f active true).posOf f = s.sampledPos f raw :=
  congrArg Track.pos (State.track_of_base (State.base_sampleEnds _ f active true) f)

/-- A condition that the sample finds is current at its end and latches where it is watched (R72 to R75). -/
theorem State.condition_latches (o : s.Ordinary f) (hf : (s.sampleMotion f raw).finds f active c = true)
    (tests : c = .track → (s.stateOf f).finding = false)
    (opens : c = .track → s.stateOf f = .calibrating .calWait → s.recallsOpen)
    (last : (active = false ∨ c = .overcurrent) → (s.sampleMotion f raw).lastFound f active c) :
    s.Latches f active ((s.sampleMotion f raw).sampleEnds f active true) c := by
  have pos := s.sampleEnds_faultsFirst_posOf f raw active
  have sampled := State.sampleMotion_sampledFor raw o
  rw [State.sampledPos] at pos
  obtain ⟨p, hp⟩ : ∃ p, p = s.sampleMotion f raw := ⟨_, rfl⟩
  rw [← hp] at hf last pos sampled ⊢
  have tested : c = .track → (p.stateOf f).finding = false := fun h => sampled.finding.trans (tests h)
  refine ⟨State.sampleEnds_current (fun h waits => ?_) (State.monitor_current tested hf), fun watch empty => ?_⟩
  · rw [State.recallsOpen, sampled.recalls]
    exact opens h (sampled.waits waits)
  obtain ⟨latched, taken, told⟩ := State.monitor_latches tested hf
    (by rw [State.config, sampled.settings]; exact watch) (by rw [sampled.latched]; exact empty)
  have ends : p.sampleEnds f active true = (p.monitoredSample f active).settleRecalls :=
    State.sampleEnds_faulted taken.state
  have spared : Spares f (p.monitoredSample f active) (p.sampleEnds f active true) := ends ▸ taken.settled
  have pages : (p.monitoredSample f active).pages = s.pages :=
    (State.pages_of_base (State.base_monitor p f active _)).trans sampled.pages
  have page (i : PageIx) : (p.monitoredSample f active).page i = s.page i := by
    rw [State.page, pages]
    rfl
  rw [pos, State.stateOf, State.claimOf, State.targetOf, State.holdOf, spared.fader]
  refine ⟨latched, taken.state, taken.claim, taken.target, taken.hold, taken.drive, fun h => taken.lane (sampled.claim ▸ h),
    fun h => spared.notices _ (taken.direct (sampled.claim.trans h)) .motion rfl,
    fun h => spared.notices _ (told (last h)) .fault rfl, fun r run i hs hr hc hi => ?_⟩
  rw [ends, ← page]
  exact taken.recalled (sampled.recalls.trans hs) hr (sampled.claim.trans hc) hi

end sample

/-! ## The three tests at a sample, and the rows that name them (log entry 12) -/

section rows
variable {s : State} {f : FaderIx} {raw : BitVec 12} {active : Bool} {c : Cond}

/-- A run of 120 ms, without 4 steps of movement, in a state and at a drive level that qualify finds STALL (R72). -/
theorem State.stallFound_of_run {p : State} {t0 ref : Nat} (hq : (p.fader f).stallQualifies = true)
    (hr : (p.fader f).fault.stallRun = some (t0, ref)) (still : dist (p.posOf f) ref < 4) (long : t0 + 720 ≤ p.now) :
    p.stallFound f = true := by
  rw [State.stallFound, hq, hr, stallTest, if_pos rfl]
  exact (congrArg Prod.snd (if_neg (Nat.not_le.2 still))).trans (decide_eq_true long)

/-- A sample in TRAVEL or SETTLE at which the setpoint is ten steps or more from the position qualifies for STALL (R47,
R72). -/
theorem State.stallQualifies_sample (o : s.Ordinary f) (hs : (s.stateOf f).servoed)
    (inside : classify (s.config f).calLow (s.config f).calHigh raw.toNat = .inWindow)
    (drive : 10 ≤ dist ((s.fader f).motion.advance (s.sampleAt f)).setpoint (s.sampledPos f raw)) :
    ((s.sampleMotion f raw).fader f).stallQualifies = true := by
  obtain ⟨moving, setpoint⟩ := State.sampleMotion_setpoint (raw := raw) o hs
  have level := s.sampleMotion_servoed f raw moving
  have cls := State.sampled_cls inside
  have strong := servoDrive_forty drive
  rw [State.sampledPos] at strong
  rw [setpoint] at level
  rw [FaderState.servoed, State.stateOf] at moving
  obtain ⟨p, hp⟩ : ∃ p, p = s.sampleMotion f raw := ⟨_, rfl⟩
  rw [← hp] at moving level strong cls ⊢
  rw [← level] at strong
  rw [Fader.stallQualifies, cls, decide_eq_true strong, ← Bool.decide_or, decide_eq_true moving]
  rfl

/-- Readings out of window for 20 ms (R73). -/
theorem State.trackFound_sample {t0 : Time} (o : s.Ordinary f)
    (outside : classify (s.config f).calLow (s.config f).calHigh raw.toNat ≠ .inWindow)
    (hr : (s.fader f).fault.trackRun = some t0) (long : t0 + 120 ≤ s.sampleAt f) :
    (s.sampleMotion f raw).trackFound f = true := by
  have sampled := State.sampleMotion_sampledFor raw o
  have cls := State.sampled_cls_outside outside
  rw [State.trackFound, sampled.now, sampled.trackRun (by rw [cls]; nofun), hr, cls]
  exact decide_eq_true long

theorem State.trackFound_inside {p : State} (h : (p.fader f).track.cls = .inWindow) : p.trackFound f = false := by
  rw [State.trackFound, h]
  rfl

/-- An active fault input for 1 ms (R74). -/
theorem State.overcurrentFound_sample {t0 : Time} (o : s.Ordinary f)
    (hr : (s.fader f).fault.overcurrentRun = some t0) (long : t0 + 6 ≤ s.sampleAt f) :
    (s.sampleMotion f raw).overcurrentFound f true = true := by
  have sampled := State.sampleMotion_sampledFor raw o
  rw [State.overcurrentFound, sampled.now, sampled.overcurrentRun, hr]
  exact decide_eq_true long

/-- The row of a condition is the sample at whose end it has become current. -/
theorem State.conditionSample_eq (ready : s.part = .ready) (hc : (s.fader f).fault.current.has c = false)
    (h : s.Latches f active ((s.sampleMotion f raw).sampleEnds f active true) c) :
    s.conditionSample f raw active c = (s.sampleMotion f raw).sampleEnds f active true :=
  if_pos ⟨ready, hc, h.1⟩

theorem exec_stallCondition (f : FaderIx) (raw : BitVec 12) (active : Bool) (s : State) :
    exec (.stallCondition f raw active) s = .next (s.conditionSample f raw active .stall) := rfl
theorem exec_trackCondition (f : FaderIx) (raw : BitVec 12) (active : Bool) (s : State) :
    exec (.trackCondition f raw active) s = .next (s.conditionSample f raw active .track) := rfl
theorem exec_overcurrentCondition (f : FaderIx) (raw : BitVec 12) (active : Bool) (s : State) :
    exec (.overcurrentCondition f raw active) s = .next (s.conditionSample f raw active .overcurrent) := rfl

end rows

theorem Motion.advance_setpoint (m : Motion) (now : Time) : (m.advance now).setpoint =
    match m.ramp with
    | .running r => if 3 * r.duration ≤ now - r.startTime then r.stop else r.setpointAt (now - r.startTime)
    | _ => m.setpoint := by
  unfold Motion.advance
  cases m.ramp with
  | running r => exact apply_ite Motion.setpoint _ _ _
  | _ => rfl

/-- Settles O42: each row's condition is found by the Fault Monitor at the sample, and stands to the sample's end. -/
theorem conditionsBecomeCurrentAndLatch : Obligations.ConditionsBecomeCurrentAndLatch := by
  intro f raw active s ready window first master x now inside pos setpoint latches
  have o : s.Ordinary f := ⟨window, first, master⟩
  have at_end := s.sampleEnds_faultsFirst_posOf f raw active
  refine ⟨fun t0 ref hin moving run still long absent strong => ?_, fun t0 out tests opens run long absent => ?_,
    fun t0 on run long absent => ?_⟩
  · have at_pos : s.sampledPos f raw = pos := State.sampledPos_inside hin
    have sampled := State.sampleMotion_sampledFor raw o
    have qualifies := State.stallQualifies_sample (raw := raw) o moving hin (by
      rw [at_pos, Motion.advance_setpoint]
      exact strong)
    have held : dist ((s.sampleMotion f raw).posOf f) ref < 4 := by
      rw [← State.sampledPos, at_pos]
      exact still
    have found : (s.sampleMotion f raw).finds f active .stall = true :=
      State.stallFound_of_run qualifies (sampled.stallRun.trans run) held (sampled.now ▸ long)
    have taken := State.condition_latches o found nofun nofun
      fun quiet => ⟨fun _ => State.trackFound_inside (State.sampled_cls hin), quiet⟩
    exact ⟨_, (exec_stallCondition f raw active s).trans (congrArg _ (State.conditionSample_eq ready absent taken)), taken,
      at_end.trans at_pos⟩
  · have found : (s.sampleMotion f raw).finds f active .track = true := State.trackFound_sample o out run long
    have taken := State.condition_latches o found (fun _ => tests) (fun _ => opens) fun quiet => ⟨nofun, quiet⟩
    exact ⟨_, (exec_trackCondition f raw active s).trans (congrArg _ (State.conditionSample_eq ready absent taken)), taken,
      at_end.trans (State.sampledPos_outside o out)⟩
  · subst on
    have found : (s.sampleMotion f raw).finds f true .overcurrent = true := State.overcurrentFound_sample o run long
    have taken := State.condition_latches o found nofun nofun fun quiet => ⟨nofun, quiet⟩
    refine ⟨_, (exec_overcurrentCondition f raw true s).trans (congrArg _ (State.conditionSample_eq ready absent taken)),
      taken, at_end.trans ?_⟩
    by_cases hin : inside
    · rw [if_pos hin]
      exact State.sampledPos_inside hin
    · rw [if_neg hin]
      exact State.sampledPos_outside o hin

end Sys2Proof.Machine
end

section
namespace Sys2Proof.Machine

/-! # WATCH-SET (R78) -/

/-! ## A latch on another fader -/

namespace State.Spares
variable {f x : FaderIx} {s : State}

theorem disableLane (s : State) (r : Option LaneReason) (h : f ≠ x) : Spares f s (s.disableLane x r) := by
  have told (t : State) {n : Notice} (hn : n.key = .fader x .lane) : Spares f t (t.raise n) :=
    raise t fun _ e => h (NoticeKey.fader.inj (hn.symm.trans e)).1.symm
  unfold State.disableLane
  split
  · cases r with
    | none => exact modFader _ _ h
    | some r => exact (modFader _ _ h).trans (told _ rfl)
  · exact refl f s

/-- The fault of another fader spares one that is neither handed a claim nor granted a slot. -/
theorem faultRecord (s : State) (h : f ≠ x) (ha : (s.stateOf f).aloof = true) : Spares f s (s.faultRecord x) := by
  obtain ⟨-, idle⟩ : (s.stateOf f).takesClaims = false ∧ (s.stateOf f).queued = false := by
    simpa [FaderState.aloof] using ha
  have ended : Spares f s (s.faultEnded x) := by
    unfold State.faultEnded
    split
    · exact disableLane s _ h
    · exact reportEnd s _ h
  have taken : Spares f s (s.faultTaken x) := by
    unfold State.faultTaken
    extract_lets t1 t2
    have off : Spares f s t1 :=
      ((((ended.trans (endCalibration _ _ _ h)).trans (goTo _ _ h)).trans (clearClaim _ h)).trans (modRecord _ _ h))
    have tested : Spares f s t2 := off.trans (entryTest _ _ h)
    split
    · exact tested.trans (raise _ fun _ e => h (NoticeKey.fader.inj e).1.symm)
    · exact tested
  have told := taken.trans (claimEnded _ x (s.claimOf x))
  have state : ((s.faultTaken x).claimEnded x (s.claimOf x)).stateOf f = s.stateOf f := by
    rw [State.stateOf, told.fader]; rfl
  rw [State.faultRecord_eq]
  refine told.trans (.evalLead_grant x (.inr ?_) ?_)
  · rw [state]
    rintro e
    rw [e] at ha
    cases ha
  · rw [state]
    exact idle

theorem faultNoted (s : State) (c : Cond) (h : f ≠ x) : Spares f s (s.faultNoted x c) :=
  (modFader s _ h).trans (raise _ fun _ e => h (NoticeKey.fader.inj e).1.symm)

theorem latchIfWatched (s : State) (c : Cond) (h : f ≠ x) (ha : (s.stateOf f).aloof = true) :
    Spares f s (s.latchIfWatched x c) := by
  have noted := faultNoted s c h
  rw [State.latchIfWatched_eq]
  split
  · split
    · exact noted.trans (faultRecord _ h (by rwa [State.stateOf, noted.fader]))
    · exact noted
  · exact refl f s

theorem latchWatched (s : State) (h : f ≠ x) (ha : (s.stateOf f).aloof = true) : Spares f s (s.latchWatched x) := by
  have next {t : State} (c : Cond) (k : Spares f s t) : Spares f s (t.latchIfWatched x c) :=
    k.trans (latchIfWatched t c h (by rwa [State.stateOf, k.fader]))
  exact next .overcurrent (next .track (next .stall (refl f s)))

end State.Spares

/-! ## The latches of one fader, in the order of Table 10-7 -/

section own
variable {s : State} {f : FaderIx}

/-- The three conditions looked at one after the other. -/
def State.latchAll (s : State) (f : FaderIx) (l : List Cond) : State := l.foldl (fun s c => s.latchIfWatched f c) s

theorem State.latchWatched_eq (s : State) (f : FaderIx) : s.latchWatched f = s.latchAll f [.stall, .track, .overcurrent] :=
  rfl

theorem State.latchAll_cons (s : State) (f : FaderIx) (k : Cond) (l : List Cond) :
    s.latchAll f (k :: l) = (s.latchIfWatched f k).latchAll f l := rfl

theorem State.latchIfWatched_config (s : State) (f x : FaderIx) (c : Cond) :
    (s.latchIfWatched f c).config x = s.config x := by
  rw [State.config, State.settings_of_base (s.base_latchIfWatched f c)]
  rfl

/-- A latch leaves what another condition does. -/
theorem State.latches_latchIfWatched {c k : Cond} (h : c ≠ k) :
    (s.latchIfWatched f k).latches f c = s.latches f c := by
  rw [State.latches, State.latchIfWatched_current, State.latchIfWatched_config, State.latchIfWatched_latched,
    decide_eq_false h, Bool.false_and, Bool.or_false]
  rfl

theorem State.latchAll_monitored {p : State} (l : List Cond) (h : Monitored f p s) : Monitored f p (s.latchAll f l) := by
  induction l generalizing s with
  | nil => exact h
  | cons k l ih => exact ih (h.latchIfWatched k)

theorem State.latchAll_latched (s : State) (f : FaderIx) (l : List Cond) (k : Cond) :
    ((s.latchAll f l).fader f).fault.latched.has k = ((s.fader f).fault.latched.has k ||
      (decide (k ∈ l) && ((s.fader f).fault.current.has k && (s.config f).watch.has k))) := by
  induction l generalizing s with
  | nil => simp [State.latchAll]
  | cons c l ih =>
    rw [State.latchAll_cons, ih, State.latchIfWatched_current, State.latchIfWatched_config, State.latchIfWatched_latched,
      Bool.or_assoc, ← Bool.and_or_distrib_right, ← Bool.decide_or]
    simp only [List.mem_cons]

/-- With a condition latched before, a further latch leaves the fader record (R75). -/
theorem State.latchAll_record (l : List Cond) (h : (s.fader f).fault.latched.isEmpty = false) :
    ((s.latchAll f l).fader f).record = (s.fader f).record := by
  induction l generalizing s with
  | nil => rfl
  | cons c l ih =>
    rw [State.latchAll_cons]
    cases hl : s.latches f c with
    | false => rw [State.latchIfWatched_passes hl, ih h]
    | true =>
      have noted := s.faultNoted_fader f c
      rw [State.latchIfWatched_joins hl h, ih (by rw [noted]; exact CondSet.isEmpty_add _ c), noted]

/-- Without a condition to latch nothing happens. -/
theorem State.latchAll_passes {l : List Cond} (h : l.filter (s.latches f) = []) : s.latchAll f l = s := by
  induction l with
  | nil => rfl
  | cons c l ih =>
    obtain ⟨hc, hl⟩ : s.latches f c = false ∧ l.filter (s.latches f) = [] := by
      rw [List.filter_cons] at h
      split at h
      · cases h
      · exact ⟨Bool.eq_false_iff.2 ‹_›, h⟩
    rw [State.latchAll_cons, State.latchIfWatched_passes hc, ih hl]

/-- The last condition to latch is the most recent latch, and the FAULT notice names it (R75, R77). -/
theorem State.latchAll_last {l : List Cond} (distinct : l.Nodup) {c : Cond}
    (h : (l.filter (s.latches f)).getLast? = some c) :
    ((s.latchAll f l).fader f).fault.lastLatch = some c ∧ Notice.fault f c ∈ (s.latchAll f l).notices := by
  induction l generalizing s with
  | nil => cases h
  | cons k l ih =>
    obtain ⟨fresh, distinct⟩ := List.nodup_cons.1 distinct
    have same : l.filter ((s.latchIfWatched f k).latches f) = l.filter (s.latches f) :=
      List.filter_congr fun x hx => State.latches_latchIfWatched fun e => fresh (e ▸ hx)
    rw [State.latchAll_cons]
    by_cases hk : s.latches f k = true
    · rw [List.filter_cons_of_pos hk] at h
      by_cases rest : l.filter (s.latches f) = []
      · obtain rfl : k = c := by rw [rest] at h; exact Option.some.inj h
        rw [State.latchAll_passes (same.trans rest), State.latchIfWatched_fault, if_pos hk]
        exact ⟨rfl, State.latchIfWatched_raises hk⟩
      · refine ih distinct ?_
        rwa [same, ← List.getLast?_cons_of_ne_nil rest]
    · rw [List.filter_cons_of_neg hk] at h
      exact ih distinct (by rwa [same])

end own

/-! ## The faders of the set, one after another -/

section turns
variable {s : State} {faders : BitVec 16} {f : FaderIx}

/-- What holds before a walk over the faders holds after it, where it is kept at each one's turn. -/
theorem State.each_keeps_of_mem {P : State → Prop} {g : FaderIx → State → State} {l : List FaderIx}
    (h : ∀ m ∈ l, ∀ t, P t → P (g m t)) (hs : P s) : P (s.each l g) :=
  List.foldlRecOn l _ hs fun t ht m hm => h m hm t ht

/-- The faders of a set that come before one of them, and those that come after it. -/
theorem fadersOf_split (hf : faders.getLsbD f.val = true) : ∃ before after, fadersOf faders = before ++ f :: after ∧
    (∀ x ∈ before, x < f ∧ faders.getLsbD x.val = true) ∧ ∀ x ∈ after, f < x := by
  obtain ⟨before, after, split⟩ := List.append_of_mem (mem_fadersOf.2 hf)
  have sorted : (fadersOf faders).Pairwise (· < ·) := (List.pairwise_lt_finRange 16).filter _
  rw [split, List.pairwise_append, List.pairwise_cons] at sorted
  obtain ⟨-, ⟨later, -⟩, earlier⟩ := sorted
  exact ⟨before, after, split, fun x hx => ⟨earlier x hx f List.mem_cons_self,
    mem_fadersOf.1 (split ▸ List.mem_append_left _ hx)⟩, later⟩

theorem State.each_append_cons (g : FaderIx → State → State) (before after : List FaderIx) :
    s.each (before ++ f :: after) g = (g f (s.each before g)).each after g := by
  simp [State.each, List.foldl_append]

/-- The turns of other faders leave the fault items of this one, but that a slot granted in CAL-WAIT ends TRACK (R73). -/
theorem State.KeepsFaults.each_latchWatched {l : List FaderIx} (h : ∀ x ∈ l, f ≠ x) :
    KeepsFaults f s (s.each l fun x s => s.latchWatched x) :=
  State.each_keeps_of_mem (P := KeepsFaults f s) (fun x hx _ ht => ht.trans (.latchWatched (h x hx))) (.refl f s)

/-- The turns of other faders spare a fader that is neither handed a claim nor granted a slot. -/
theorem State.Spares.each_latchWatched {l : List FaderIx} (h : ∀ x ∈ l, f ≠ x) (ha : (s.stateOf f).aloof = true) :
    Spares f s (s.each l fun x s => s.latchWatched x) :=
  State.each_keeps_of_mem (P := Spares f s)
    (fun x hx t ht => ht.trans (.latchWatched t (h x hx) (by rwa [State.stateOf, ht.fader]))) (.refl f s)

/-- Writing the settings of faders writes nothing else. -/
theorem State.each_modConfig_eq (s : State) (g : FaderSettings → FaderSettings) (l : List FaderIx) :
    ∃ fs, s.each l (fun f s => s.modConfig f g) = { s with settings := { s.settings with faders := fs } } := by
  refine State.each_keeps (P := fun t => ∃ fs, t = { s with settings := { s.settings with faders := fs } }) ?_ l
    ⟨s.settings.faders, rfl⟩
  rintro m t ⟨fs, rfl⟩
  exact ⟨_, rfl⟩

/-- Each fader of the set has its settings written, and no other. -/
theorem State.each_modConfig_config (s : State) (g : FaderSettings → FaderSettings) (faders : BitVec 16) (f : FaderIx) :
    (s.each (fadersOf faders) fun f s => s.modConfig f g).config f =
      if faders.getLsbD f.val then g (s.config f) else s.config f := by
  have others (t : State) {l : List FaderIx} (h : ∀ x ∈ l, f ≠ x) :
      (t.each l fun f s => s.modConfig f g).config f = t.config f :=
    State.each_keeps_of_mem (P := fun u => u.config f = t.config f)
      (fun x hx u hu => (u.config_modConfig_ne g (h x hx)).trans hu) rfl
  split
  · rename_i hf
    obtain ⟨before, after, split, earlier, later⟩ := fadersOf_split hf
    rw [split, State.each_append_cons, others _ fun x hx => (later x hx).ne, State.config_modConfig,
      others _ fun x hx => (earlier x hx).1.ne']
  · rename_i hf
    exact others s fun x hx e => hf (mem_fadersOf.1 (e ▸ hx))

end turns

/-! ## The request -/

section request
variable {s : State} {faders : BitVec 16} {watch : Nat} {f : FaderIx}

/-- The watch set written to every fader of the set (R78). -/
def State.watchWritten (s : State) (faders : BitVec 16) (watch : Nat) : State :=
  s.each (fadersOf faders) fun f s => s.modConfig f fun c => { c with watch := condSetOf watch }

/-- Each fader of the set, in turn, latches what is current and now watched (R78). -/
def State.watchLatched (s : State) (faders : BitVec 16) (watch : Nat) : State :=
  ((s.watchWritten faders watch).each (fadersOf faders) fun f s => s.latchWatched f).settleRecalls

theorem exec_watchSet (hears : s.hears = true) (faders : BitVec 16) (watch : Nat) :
    exec (.watchSet .addressed faders watch) s = .next (s.closed (watchSetAct faders watch s.contact).st .addressed 7
      (watchSetAct faders watch s.contact).status (watchSetAct faders watch s.contact).data) :=
  takeRequest_heard hears (.inl rfl)

theorem watchSetAct_taken (h : faders ≠ 0#16) : watchSetAct faders watch s = taken .none (s.watchLatched faders watch) := by
  rw [watchSetAct, if_neg h]
  rfl

theorem State.watchLatched_base (s : State) (faders : BitVec 16) (watch : Nat) :
    (s.watchLatched faders watch).base = (s.watchWritten faders watch).base := by
  rw [State.watchLatched, State.base_settleRecalls, State.base_each _ fun x t => t.base_latchWatched x]

theorem State.watchWritten_fader (s : State) (faders : BitVec 16) (watch : Nat) (f : FaderIx) :
    (s.watchWritten faders watch).fader f = s.fader f := by
  obtain ⟨fs, e⟩ := s.each_modConfig_eq (fun c => { c with watch := condSetOf watch }) (fadersOf faders)
  rw [State.watchWritten, e]
  rfl

/-- The turn of fader `f` at WATCH-SET, from `u`: its fault items are then as at the request, but that a slot granted by an
earlier turn in CAL-WAIT may have ended TRACK (R73), a FAULTED fader has its record, and what its turn leaves stands. -/
structure State.WatchTurn (s t u : State) (f : FaderIx) (watch : Nat) (first : Prop) : Prop where
  items : ∃ r b, (u.fader f).fault = { (s.fader f).fault with
    trackRun := r, current := { (s.fader f).fault.current with track := b } }
  stands : s.stateOf f ≠ .calibrating .calWait ∨ first → (u.fader f).fault = (s.fader f).fault
  record : s.stateOf f = .faulted → (u.fader f).record = (s.fader f).record
  watched : (u.config f).watch = condSetOf watch
  keeps : KeepsFaults f (u.latchWatched f) t
  spares : ((u.latchWatched f).stateOf f).aloof = true → Spares f (u.latchWatched f) t

/-- Each fader of the set has its turn. -/
theorem State.watchLatched_turn (hf : faders.getLsbD f.val = true) : ∃ u, s.WatchTurn (s.watchLatched faders watch) u f watch
    (∀ f' : FaderIx, f' < f → faders.getLsbD f'.val = false) := by
  obtain ⟨before, after, split, earlier, later⟩ := fadersOf_split hf
  obtain ⟨w, hw⟩ : ∃ w, w = s.watchWritten faders watch := ⟨_, rfl⟩
  obtain ⟨u, hu⟩ : ∃ u, u = w.each before fun x s => s.latchWatched x := ⟨_, rfl⟩
  have fader : w.fader f = s.fader f := hw ▸ s.watchWritten_fader faders watch f
  have state : w.stateOf f = s.stateOf f := by rw [State.stateOf, fader]; rfl
  have config : (w.config f).watch = condSetOf watch := by
    rw [hw, State.watchWritten, State.each_modConfig_config, if_pos hf]
  have unlike : ∀ x ∈ before, f ≠ x := fun x hx => (earlier x hx).1.ne'
  have before_keeps : KeepsFaults f w u := hu ▸ .each_latchWatched unlike
  have ends : s.watchLatched faders watch =
      ((u.latchWatched f).each after fun x s => s.latchWatched x).settleRecalls := by
    rw [State.watchLatched, ← hw, split, State.each_append_cons, ← hu]
  refine ⟨u, ?_, fun h => ?_, fun h => ?_, ?_, ?_, fun h => ?_⟩
  · rw [← fader]
    exact before_keeps.items
  · rw [← fader]
    rcases h with h | first
    · exact (before_keeps.stands (state ▸ h)).2
    · have none_earlier : before = [] := List.eq_nil_iff_forall_not_mem.2 fun x hx => by
        obtain ⟨below, named⟩ := earlier x hx
        rw [first x below] at named
        cases named
      rw [hu, none_earlier]
      rfl
  · have spared : Spares f w u := hu ▸ .each_latchWatched unlike (by rw [state, h]; rfl)
    rw [spared.fader, fader]
  · have base : u.base = w.base := by rw [hu, State.base_each _ fun x t => t.base_latchWatched x]
    rw [State.config, State.settings_of_base base]
    exact config
  · rw [ends]
    exact (KeepsFaults.each_latchWatched fun x hx => (later x hx).ne).trans .settleRecalls
  · have spared := Spares.each_latchWatched (fun x hx => (later x hx).ne) h
    rw [ends]
    exact spared.trans ((HandsOut.settleRecalls _).spares (by rwa [State.stateOf, spared.fader]))

namespace State.WatchTurn
variable {t u : State} {first : Prop}

/-- Fault items that a fader's turn leaves stand to the end of the request. -/
theorem latched (h : s.WatchTurn t u f watch first) :
    (t.fader f).fault.latched = ((u.latchWatched f).fader f).fault.latched ∧
      (t.fader f).fault.lastLatch = ((u.latchWatched f).fader f).fault.lastLatch := by
  obtain ⟨r, b, e⟩ := h.keeps.items
  rw [e]
  exact ⟨rfl, rfl⟩

theorem latchWatched_has (h : s.WatchTurn t u f watch first) (c : Cond) : (t.fader f).fault.latched.has c =
    ((u.fader f).fault.latched.has c || ((u.fader f).fault.current.has c && (condSetOf watch).has c)) := by
  have looked : c ∈ [Cond.stall, .track, .overcurrent] := by cases c <;> decide
  rw [h.latched.1, State.latchWatched_eq, State.latchAll_latched, h.watched, decide_eq_true looked, Bool.true_and]

/-- What is current and now watched joins the latched set (R75, R78). -/
theorem joins (h : s.WatchTurn t u f watch first) (hs : s.stateOf f ≠ .calibrating .calWait ∨ first) (c : Cond) :
    (t.fader f).fault.latched.has c =
      ((s.fader f).fault.latched.has c || ((s.fader f).fault.current.has c && (condSetOf watch).has c)) := by
  rw [← h.stands hs]
  exact h.latchWatched_has c

/-- A condition current at the request is so at the fader's turn, but for TRACK in CAL-WAIT (R73). -/
theorem current (h : s.WatchTurn t u f watch first) {c : Cond}
    (hc : c = .track → s.stateOf f ≠ .calibrating .calWait ∨ first) :
    (u.fader f).fault.current.has c = (s.fader f).fault.current.has c := by
  obtain ⟨r, b, e⟩ := h.items
  cases c with
  | track => rw [h.stands (hc rfl)]
  | stall => rw [e]; rfl
  | overcurrent => rw [e]; rfl

/-- A condition current and now watched on a fader with nothing latched latches, and the fader is FAULTED (R36, R75, R78). -/
theorem takes (h : s.WatchTurn t u f watch first) {c : Cond} (he : (s.fader f).fault.latched.isEmpty = true)
    (found : ((s.fader f).fault.current.has c && (condSetOf watch).has c) = true)
    (hc : c = .track → s.stateOf f ≠ .calibrating .calWait ∨ first) :
    (t.fader f).fault.latched.has c = true ∧ t.stateOf f = .faulted ∧ t.claimOf f = .none := by
  obtain ⟨r, b, e⟩ := h.items
  have empty : (u.fader f).fault.latched.isEmpty = true := by rw [e]; exact he
  have latched : (t.fader f).fault.latched.has c = true := by
    rw [h.latchWatched_has, h.current hc, found, Bool.or_true]
  have monitored : Monitored f u (u.latchWatched f) := State.latchAll_monitored _ (.start empty)
  have taken := monitored.taken (c := c) (by rw [← h.latched.1]; exact latched)
  have stays := (h.spares (by rw [taken.state]; rfl)).fader
  exact ⟨latched, (congrArg (·.record.state) stays).trans taken.state, (congrArg (·.record.claim) stays).trans taken.claim⟩

/-- The last condition added is the most recent latch, named in the FAULT notice; with none added the latch stands (R77). -/
theorem last (h : s.WatchTurn t u f watch first) (hs : s.stateOf f ≠ .calibrating .calWait ∨ first) :
    let added := [Cond.stall, .track, .overcurrent].filter fun c =>
      ((s.fader f).fault.current.has c && (condSetOf watch).has c) && !(s.fader f).fault.latched.has c
    (∀ c, added.getLast? = some c → (t.fader f).fault.lastLatch = some c ∧ Notice.fault f c ∈ t.notices) ∧
      (added = [] → (t.fader f).fault.lastLatch = (s.fader f).fault.lastLatch) := by
  intro added
  have same : added = [Cond.stall, .track, .overcurrent].filter (u.latches f) := by
    refine List.filter_congr fun c _ => ?_
    rw [State.latches, h.watched, h.stands hs]
  rw [h.latched.2, State.latchWatched_eq, same]
  refine ⟨fun c hl => ?_, fun none_added => ?_⟩
  · obtain ⟨latest, told⟩ := State.latchAll_last (by decide) hl
    exact ⟨latest, h.keeps.notices _ told rfl⟩
  · rw [State.latchAll_passes none_added, h.stands hs]

/-- On a FAULTED fader with a condition latched the record stands (R75, R78). -/
theorem recordStands (h : s.WatchTurn t u f watch first) (he : (s.fader f).fault.latched.isEmpty = false)
    (hs : s.stateOf f = .faulted) : (t.fader f).record = (s.fader f).record := by
  obtain ⟨r, b, e⟩ := h.items
  have latched : (u.fader f).fault.latched.isEmpty = false := by rw [e]; exact he
  have record : ((u.latchWatched f).fader f).record = (s.fader f).record :=
    (State.latchAll_record _ latched).trans (h.record hs)
  rw [(h.spares (by rw [State.stateOf, record, ← State.stateOf, hs]; rfl)).fader, record]

end State.WatchTurn

/-- What the request leaves on the line and of the settings (R78, R158). -/
theorem State.watchLatched_settings (s : State) (faders : BitVec 16) (watch : Nat) :
    let t := s.watchLatched faders watch
    t.link = s.link ∧ t.settings = { s.settings with faders := t.settings.faders } ∧
      ∀ f, t.config f = if faders.getLsbD f.val then { s.config f with watch := condSetOf watch } else s.config f := by
  intro t
  have base : t.base = (s.watchWritten faders watch).base := s.watchLatched_base faders watch
  have settings := State.settings_of_base base
  obtain ⟨fs, e⟩ := s.each_modConfig_eq (fun c => { c with watch := condSetOf watch }) (fadersOf faders)
  refine ⟨?_, ?_, fun f => ?_⟩
  · rw [State.link_of_base base, State.watchWritten, e]
  · rw [settings, State.watchWritten, e]
  · rw [State.config, settings]
    exact s.each_modConfig_config _ faders f

end request

/-- Settles O14: the watch set written first, then each fader's own turn, which the turns of the others leave standing. -/
theorem watchSetLatchesCurrentConditions : Obligations.WatchSetLatchesCurrentConditions := by
  intro faders watch s hears
  refine ⟨fun none_named => ?_, fun named => ?_⟩
  · rw [exec_watchSet hears, watchSetAct, if_pos none_named]
    rfl
  · obtain ⟨v, hv⟩ : ∃ v, v = s.contact.watchLatched faders watch := ⟨_, rfl⟩
    obtain ⟨line, settings, config⟩ := s.contact.watchLatched_settings faders watch
    rw [← hv] at line settings config
    refine ⟨s.closed v .addressed 7 .ok .none, by rw [exec_watchSet hears, watchSetAct_taken named, ← hv]; rfl,
      State.closed_reply line _ _ _, fun f => ?_, ?_, fun f hf => ?_⟩
    · rw [← s.contact_config f]
      exact config f
    · rw [← s.contact_settings]
      exact settings
    · obtain ⟨u, turn⟩ := s.contact.watchLatched_turn (watch := watch) hf
      rw [← hv] at turn
      rw [← s.contact_fader f, ← s.contact_stateOf f]
      exact ⟨fun c he found hc => turn.takes he found hc, fun hs => ⟨turn.joins hs, (turn.last hs).1, (turn.last hs).2,
        turn.recordStands⟩⟩

end Sys2Proof.Machine
end
